-- ==== Sys2Proof/Word.lean ====
section
/-! DEFINITION. The words of the machine: 4-bit data, 8-bit program bytes, 14-bit program addresses (00_scope.md R6). -/

namespace Sys2Proof

/-- A 4-bit word of data memory, of a port or of a general register (10_state.md R20, R37). -/
abbrev Nibble := BitVec 4

/-- A byte of program memory (10_state.md R37). -/
abbrev Byte := BitVec 8

/-- A program-memory address, held in 14 bits on every series (10_state.md R22). -/
abbrev CodeAddr := BitVec 14

end Sys2Proof
end

