-- ==== Sys2Proof/Machine/Flags.lean ====
section
/-! DEFINITION. The flag computations: `Z`, `add4`, `sub4` of 00_scope.md R7 and 43_arithmetic_logical.md R189, computed exactly on
integers and narrowed at the end. -/

namespace Sys2Proof.Machine

/-- `Z(v)`: zero detect information (R7, R8). -/
def isZero (v : Nibble) : Bool := v == 0

/-- `add4(a, b, c)`: the low four bits of `a + b + c`, and the carry out of bit 3 (R7). -/
def add4 (a b : Nibble) (c : Bool) : Nibble × Bool :=
  let s : Nat := a.toNat + b.toNat + c.toNat
  (BitVec.ofNat 4 s, decide (16 ≤ s))

/-- `sub4(a, b, w)`: the low four bits of `a - b - w`, and `C`, which is 1 when there is no borrow (R7). -/
def sub4 (a b : Nibble) (w : Bool) : Nibble × Bool :=
  let d : Int := a.toNat - b.toNat - w.toNat
  (BitVec.ofInt 4 d, decide (0 ≤ d))

/-- `ROLC`: the accumulator rotated left through the carry, and the bit shifted out (44_rotation.md R200). -/
def rotLeft (a : Nibble) (c : Bool) : Nibble × Bool :=
  (a.extractLsb' 0 3 ++ BitVec.ofBool c, a.getLsbD 3)

/-- `RORC`: the accumulator rotated right through the carry, and the bit shifted out (R201). -/
def rotRight (a : Nibble) (c : Bool) : Nibble × Bool :=
  (BitVec.ofBool c ++ a.extractLsb' 1 3, a.getLsbD 0)

/-- `setbit(v, b)` of 45_bit_manipulation.md. -/
def setBit (v : Nibble) (b : BitVec 2) : Nibble := v ||| (1#4 <<< b.toNat)

/-- `clrbit(v, b)` of 45_bit_manipulation.md. -/
def clrBit (v : Nibble) (b : BitVec 2) : Nibble := v &&& ~~~(1#4 <<< b.toNat)

/-- Bit `b` of a word. -/
def bitOf (v : Nibble) (b : BitVec 2) : Bool := v.getLsbD b.toNat

end Sys2Proof.Machine
end

