-- ==== Sys2Proof/Config.lean ====
section
/-! DEFINITION. The parameters of 00_scope.md R5 as plain data (`Device`), and the free values: the opaque constants that stand
for what no rule fixes (log 1, log 14, log 15). -/

namespace Sys2Proof

/-- 00_scope.md R1: which of the three series the machine is. -/
inductive Series where
  | s47 | s470 | s470A
deriving DecidableEq, Repr, Inhabited

/-- `PCW` of R5: the width of PC in bits. -/
def Series.pcw : Series → Nat
  | .s47 => 12
  | .s470 => 14
  | .s470A => 14

/-- `NBANK` of R5: how many data-memory banks can be addressed. -/
def Series.nbank : Series → Nat
  | .s47 => 1
  | .s470 => 2
  | .s470A => 4

/-- `PortKind` of R5 (20_memory.md R60). -/
inductive PortKind where
  | output | input | io | absent
deriving DecidableEq, Repr, Inhabited

/-- The flags that are saved and restored as a group (10_state.md R26); `gf` counts on TLCS-47 only. -/
structure Flags where
  cf : Bool
  zf : Bool
  sf : Bool
  gf : Bool
deriving DecidableEq, Repr, Inhabited

/-- A run of data-memory addresses of one bank, both ends included: sets of words (R5 `RamImplemented`, `StackAliasGuard`) are
lists of these. -/
structure RamRange where
  bank : BitVec 2
  lo : BitVec 8
  hi : BitVec 8
deriving DecidableEq, Repr

/-- `IntConfig` of 60_exceptions.md R305, as data: bit `e` of entry `i` of `enabledAt` is `enabled(i, EIR = e)`; `order` is the
priority order, highest first; `vector` the entry addresses (log 13). -/
structure IntConfig where
  enabledAt : Vector (BitVec 16) 6
  order : List (Fin 6)
  vector : Vector CodeAddr 6
deriving DecidableEq, Repr

/-- `LD_DMB_IMM_ENC` of R5: no encoding, or the suggested `03 2C k9` (46_flag_and_bank_control.md R248; log 18). -/
inductive LdDmbImmEnc where
  | absent | suggested
deriving DecidableEq, Repr, Inhabited

/-- The parameters of R5 that no instruction changes (10_state.md R42; log 1). -/
structure Device where
  /-- `SERIES` -/
  series : Series
  /-- `ROM_SIZE` -/
  romSize : Nat
  /-- `RamImplemented` -/
  ramImplemented : List RamRange
  /-- `StackAliasGuard` (20_memory.md R59) -/
  stackAliasGuard : List RamRange
  /-- `StackUsable`: bit `i` says that location `i` may hold a return address (48_subroutine.md R274) -/
  stackUsable : BitVec 16
  /-- `PortKind(p)` -/
  portKind : Vector PortKind 32
  /-- `IntConfig` -/
  intConfig : IntConfig
  /-- `STK13_OP3` (49_interrupt_stk13_cpu.md R290) -/
  stk13Op3 : Option Byte
  /-- `LD_DMB_IMM_ENC` -/
  ldDmbImmEnc : LdDmbImmEnc
  /-- the second byte of `MOV_A_SPW13_ENC` (R292; log 19) -/
  movASpw13Enc : Byte
  /-- `RESET_PC` -/
  resetPc : CodeAddr
deriving DecidableEq, Repr

/-- DESIGN CHOICE (log 13): at reset no request is enabled, whatever EIR holds; R305 leaves all of this open. -/
def IntConfig.quiet : IntConfig where
  enabledAt := Vector.replicate 6 0
  order := [5, 4, 3, 2, 1, 0]
  vector := Vector.replicate 6 0

/-- Every word of every bank. -/
def RamRange.all : List RamRange := [⟨0, 0x00, 0xFF⟩, ⟨1, 0x00, 0xFF⟩, ⟨2, 0x00, 0xFF⟩, ⟨3, 0x00, 0xFF⟩]

/-- The device of `State.reset`. The spec's defaults of R5 where it gives one (StackAliasGuard, StackUsable, STK13_OP3,
LD_DMB_IMM_ENC, MOV_A_SPW13_ENC, RESET_PC); DESIGN CHOICE elsewhere (log 2, 3, 11, 12, 13). -/
def Device.default : Device where
  series := .s470A
  romSize := 16384
  ramImplemented := RamRange.all
  stackAliasGuard := [⟨0, 0xC0, 0xFF⟩]
  stackUsable := 0x7FFF
  portKind := Vector.replicate 32 .io
  intConfig := .quiet
  stk13Op3 := none
  ldDmbImmEnc := .absent
  movASpw13Enc := 0x84
  resetPc := 0

/-- The conditions R5, R291 and R57 put on the parameters: program memory fits the PC, and a parameter byte does not take the
bytes of a printed row. -/
def Device.wf (d : Device) : Bool :=
  decide (d.romSize ≤ 2 ^ d.series.pcw) && decide (d.resetPc.toNat < 2 ^ d.series.pcw) &&
  d.stk13Op3 != some 0xE9 && d.stk13Op3 != some 0xA9 && d.stk13Op3 != some 0x29 && d.stk13Op3 != some 0x69 &&
  d.movASpw13Enc != 0x04

/-- FREE VALUE (log 14): flags that no rule fixes, one for each use of the counter `State.freeCount` (10_state.md R31,
60_exceptions.md R304). -/
opaque Config.freeFlags : Nat → Flags

/-- FREE VALUE (log 15): what the environment supplies to a port read past the values State lists (20_memory.md R61). -/
opaque Config.freePin : Nat → Nibble

end Sys2Proof
end

