-- ==== Sys2Proof/Machine/State.lean ====
section
/-! DEFINITION. The state of the machine as plain data (10_state.md), the reasons a step can stop (60_exceptions.md R301), and the
machine right after reset (R41). INVENTORY.md lists every field with its rule. -/

namespace Sys2Proof.Machine

/-- A store of `w`-bit words by address, in one canonical form (`Memory.wf`): addresses strictly rising, and no entry equal to
what an unlisted address reads as, which is 0 (log 3, log 4). With `w = 8` it is a list of `Host.Cell`. -/
abbrev Memory (w : Nat) := List (Nat × BitVec w)

/-- The canonical form of a memory. -/
abbrev Memory.wf {w : Nat} (m : Memory w) : Prop :=
  (m.map Prod.fst).Pairwise (· < ·) ∧ ∀ c ∈ m, c.2 ≠ 0

/-- A data-memory address: a bank and an 8-bit address in it (20_memory.md R50). -/
structure DataAddr where
  bank : BitVec 2
  addr : BitVec 8
deriving DecidableEq, Repr

/-- One stack location (10_state.md R31). -/
structure StackLoc where
  /-- `PC 12-0` -/
  pc : BitVec 13
  /-- FLAG, as interrupt entry saves it -/
  flag : Flags
deriving DecidableEq, Repr, Inhabited

/-- What the environment does at one instruction boundary (60_exceptions.md R303, R304; log 16): the latch bits it sets, and whether
acceptance of a pending interrupt is delayed past this boundary. -/
structure Boundary where
  requests : BitVec 6
  hold : Bool
deriving DecidableEq, Repr

/-- The events R61, R62 and R303 record (log 17). -/
inductive Event where
  /-- `(in, p, value)` -/
  | portIn (p : BitVec 5) (v : Nibble)
  /-- `(out, p, value)` -/
  | portOut (p : BitVec 5) (v : Nibble)
  /-- `(irq, i)` -/
  | irq (i : Fin 6)
deriving DecidableEq, Repr

/-- The faults of 60_exceptions.md R301. None is a hardware trap: the run ends and the state is as before the instruction (R300).
All are safe: the hardware goes on in some way the spec does not give (log 30). -/
inductive Fault where
  /-- Instruction fetch of a byte at or above ROM_SIZE (20_memory.md R58). Safe. -/
  | fetchOutsideRom (a : CodeAddr)
  /-- Decode: the bytes at `pc` are an unassigned encoding of the series (30_encoding.md R87). Safe. -/
  | illegalInstruction (pc : CodeAddr) (bytes : List Byte)
  /-- `LD HL, x` and `XCH HL, x` with `x[1:0]` not 00B (R53). Safe. -/
  | misalignedPair (x : Byte)
  /-- A data-memory access to a word the device does not have (R54). Safe. -/
  | ramNotImplemented (bank : BitVec 2) (a : BitVec 8)
  /-- A data-memory access inside StackAliasGuard (R59). Safe. -/
  | guardedRam (bank : BitVec 2) (a : BitVec 8)
  /-- A table read at or above ROM_SIZE: `LDL`, `LDH`, `OUTB` (R57). Safe. -/
  | romReadOutsideRom (a : CodeAddr)
  /-- An access to a port the device does not have (R60). Safe. -/
  | portAbsent (p : BitVec 5)
  /-- An access to a port address that carries CPU state, by another instruction than the named ones (R64). Safe. -/
  | reservedPort (p : BitVec 5)
  /-- A push to or a pop from a location outside StackUsable: calls, returns, interrupt entry (48_subroutine.md R274). Safe. -/
  | stackLocationUnusable (i : BitVec 4)
deriving DecidableEq, Repr

/-- Why an instruction has no meaning in the model. -/
inductive Refusal where
  /-- Raised by `exec` for an instruction the model does not give a meaning; no arm does. Safe. -/
  | notModelled (mnemonic : String)
deriving DecidableEq, Repr

/-- The state of the machine. The registers of 10_state.md, the parameters of 00_scope.md R5 (`dev`), program memory, and the model's
own fields for the environment and for free values. -/
structure State where
  /-- The parameters of R5; no step changes them (R42, log 1). -/
  dev : Device
  /-- Program memory: `ROM`; no step changes it (R72). -/
  rom : Memory 8
  /-- Data memory, keyed by `256 * bank + address` (R50). -/
  ram : Memory 4
  /-- PC: the address of the next instruction's first byte (R22). -/
  pc : CodeAddr
  /-- Accumulator `A` (R20). -/
  a : Nibble
  /-- H register (R20). -/
  h : Nibble
  /-- L register (R20). -/
  l : Nibble
  /-- Carry flag (R24). -/
  cf : Bool
  /-- Zero flag (R24). -/
  zf : Bool
  /-- Status flag, the condition of every branch (R24). -/
  sf : Bool
  /-- General flag, TLCS-47 only (R25). -/
  gf : Bool
  /-- Data memory bank selector (R27). -/
  dmb : BitVec 2
  /-- Data table bank selector, a register on TLCS-470A only (R28). -/
  dtb : BitVec 2
  /-- Data counter (R29). -/
  dc : BitVec 12
  /-- Stack pointer word: the location the next push writes (R30). -/
  spw : BitVec 4
  /-- STACK (R31). -/
  stack : Vector StackLoc 16
  /-- STK13: bit 13 of each saved PC (R32). -/
  stk13 : Vector Bool 16
  /-- Stack pointer word for STK13, TLCS-470A (R33). -/
  spw13 : BitVec 4
  /-- Enable interrupt register (R34). -/
  eir : BitVec 4
  /-- Enable interrupt master flip-flop (R35). -/
  eif : Bool
  /-- Interrupt latch IL5..IL0 (R36). -/
  il : BitVec 6
  /-- The port output latches (R38). -/
  latch : Vector Nibble 32
  /-- MODEL: the boundaries to come (R303, R304; log 16). -/
  schedule : List Boundary
  /-- MODEL: the values the environment will supply to port reads (R61; log 15). -/
  pins : List Nibble
  /-- MODEL: the events so far, newest first (R61, R62, R303; log 17). -/
  events : List Event
  /-- MODEL: how many free values have been drawn (log 14). -/
  freeCount : Nat
deriving DecidableEq, Repr

/-- Reset on device `d` (R41, R330): PC at RESET_PC, interrupts disabled, EIR and IL zero. Every other value is DESIGN CHOICE zero
(log 4 to 10): the spec leaves it unspecified. Nothing is listed in program memory (log 3). -/
def State.resetOn (d : Device) : State where
  dev := d
  rom := []
  ram := []
  pc := d.resetPc
  a := 0
  h := 0
  l := 0
  cf := false
  zf := false
  sf := false
  gf := false
  dmb := 0
  dtb := 0
  dc := 0
  spw := 0
  stack := Vector.replicate 16 ⟨0, ⟨false, false, false, false⟩⟩
  stk13 := Vector.replicate 16 false
  spw13 := 0
  eir := 0
  eif := false
  il := 0
  latch := Vector.replicate 32 0
  schedule := []
  pins := []
  events := []
  freeCount := 0

/-- FIXED NAME: the machine right after reset, on the device whose parameters the log names. -/
def State.reset : State := State.resetOn Device.default

end Sys2Proof.Machine
end

