-- ==== Sys2Proof/Machine/Operands.lean ====
section
/-! DEFINITION. Operand addresses: the three data-memory modes (20_memory.md R51), the table address (R57), the port and bit of `@L`,
and the widths that depend on the series (log 29). -/

namespace Sys2Proof.Machine

/-- An address at the width of PC: modulo `2^PCW` (10_state.md R22, R23). -/
def wrapPc (s : Series) (a : CodeAddr) : CodeAddr :=
  match s with
  | .s47 => a &&& 0x0FFF#14
  | .s470 => a
  | .s470A => a

/-- `npc`: the address of the next instruction in sequence, for an instruction of `len` bytes (R22). -/
def State.npc (s : State) (len : Nat) : CodeAddr := wrapPc s.dev.series (s.pc + BitVec.ofNat 14 len)

/-- A value at the width of DMB (10_state.md R27): no bit on TLCS-47, one on TLCS-470, two on TLCS-470A. -/
def narrowDmb (s : Series) (v : BitVec 2) : BitVec 2 :=
  match s with
  | .s47 => 0
  | .s470 => v &&& 1
  | .s470A => v

/-- `DMBv`: the data-memory bank in force (00_scope.md R7). -/
def State.dmbv (s : State) : BitVec 2 := narrowDmb s.dev.series s.dmb

/-- `EA_HL` (R51 (a), 10_state.md R21). -/
def State.eaHL (s : State) : DataAddr := ⟨s.dmbv, s.h ++ s.l⟩

/-- `EA_x` (R51 (b)). -/
def State.eaX (s : State) (x : Byte) : DataAddr := ⟨s.dmbv, x⟩

/-- `EA_y` (R51 (c)): always page 0 of bank 0. -/
def eaY (y : Nibble) : DataAddr := ⟨0, 0#4 ++ y⟩

/-- `DTB` as the series has it: constant 0, constant 1, or the register (10_state.md R28). -/
def State.dtbv (s : State) : BitVec 2 :=
  match s.dev.series with
  | .s47 => 0
  | .s470 => 1
  | .s470A => s.dtb

/-- `TA`, the table look-up address `DTB · DC` (R57). -/
def State.tableAddr (s : State) : CodeAddr := s.dtbv ++ s.dc

/-- The address of `OUTB`'s table byte: `(ROM_SIZE - 32) + (CF · m)`, modulo `2^PCW` (R57, 42_input_output.md R147; log 24). -/
def State.outbAddr (s : State) (m : Nibble) : CodeAddr :=
  wrapPc s.dev.series (BitVec.ofNat 14 (s.dev.romSize + 16384 - 32 + (BitVec.ofBool s.cf ++ m).toNat))

/-- The port address of `@L`: `4 + L[3:2]` (45_bit_manipulation.md R213). -/
def State.portAtL (s : State) : BitVec 5 := 0b001#3 ++ s.l.extractLsb' 2 2

/-- The bit of `@L`: `L[1:0]` (R213). -/
def State.bitAtL (s : State) : BitVec 2 := s.l.extractLsb' 0 2

/-- The port address `0 · pppp` (30_encoding.md R86). -/
def portLow (p : Nibble) : BitVec 5 := 0#1 ++ p

/-- The port address `1 · pppp` (R86). -/
def portHigh (p : Nibble) : BitVec 5 := 1#1 ++ p

/-- The entry address of a short call (48_subroutine.md R270): `8n + 6`, and 0086H for `n = 0`. -/
def shortEntry (n : Nibble) : CodeAddr :=
  if n = 0 then 0x0086 else BitVec.ofNat 14 (8 * n.toNat + 6)

end Sys2Proof.Machine
end

