-- ==== Sys2Proof/Machine/Ops.lean ====
section
/-! DEFINITION. The named operations over memory, ports, stack and registers; taking an interrupt and returning from one. An
instruction's checks and its writes are kept apart: a meaning is `checked faults s'`, the list of its checks in the order of
60_exceptions.md R302 and the state its writes lead to, since a fault undoes the whole instruction (R300). -/

namespace Sys2Proof.Machine

/-- What a step answers. -/
abbrev Result := Host.Outcome State Fault Refusal

/-! ### Checks -/

/-- The first check that fails, in the order given (R302). -/
def firstFault : List (Option Fault) → Option Fault
  | [] => none
  | some f :: _ => some f
  | none :: r => firstFault r

/-- The instruction's checks, then its writes as a unit (R7, R300). -/
def checked (faults : List (Option Fault)) (s' : State) : Result :=
  match firstFault faults with
  | some f => .fault f
  | none => .next s'

/-! ### Memory -/

/-- The word at `a`; an unlisted address reads as 0 (log 3, log 4). -/
def Memory.read {w : Nat} : Memory w → Nat → BitVec w
  | [], _ => 0
  | (k, v) :: r, a => if k = a then v else Memory.read r a

/-- Writing `v` at `a`, keeping the canonical form. -/
def Memory.write {w : Nat} : Memory w → Nat → BitVec w → Memory w
  | [], a, v => if v = 0 then [] else [(a, v)]
  | (k, x) :: r, a, v =>
    if a < k then (if v = 0 then (k, x) :: r else (a, v) :: (k, x) :: r)
    else if a = k then (if v = 0 then r else (a, v) :: r)
    else (k, x) :: Memory.write r a v

/-- The key of a data-memory word (20_memory.md R50). -/
def DataAddr.key (ea : DataAddr) : Nat := 256 * ea.bank.toNat + ea.addr.toNat

/-- Whether a set of words, given as ranges, holds the address. -/
def inRanges (rs : List RamRange) (ea : DataAddr) : Bool :=
  rs.any fun r => r.bank == ea.bank && decide (r.lo ≤ ea.addr) && decide (ea.addr ≤ r.hi)

/-- The check of a data-memory access: `RamNotImplemented` before `GuardedRam` (R54, R59, R302). -/
def State.ramFault (s : State) (ea : DataAddr) : Option Fault :=
  if !inRanges s.dev.ramImplemented ea then some (.ramNotImplemented ea.bank ea.addr)
  else if inRanges s.dev.stackAliasGuard ea then some (.guardedRam ea.bank ea.addr)
  else none

/-- `RAM[b, a]` as a source (R55). -/
def State.readRam (s : State) (ea : DataAddr) : Nibble := Memory.read s.ram ea.key

/-- `RAM[b, a] <- v` (R56). -/
def State.writeRam (s : State) (ea : DataAddr) (v : Nibble) : State := { s with ram := Memory.write s.ram ea.key v }

/-- The byte of program memory at `a` (R57). -/
def State.romByte (s : State) (a : CodeAddr) : Byte := Memory.read s.rom a.toNat

/-- The check of a table read: `RomReadOutsideRom` (R57). -/
def State.tableFault (s : State) (a : CodeAddr) : Option Fault :=
  if a.toNat < s.dev.romSize then none else some (.romReadOutsideRom a)

/-- The check of the pair operand: `MisalignedPair` (R53). -/
def pairFault (x : Byte) : Option Fault :=
  if x.extractLsb' 0 2 = 0 then none else some (.misalignedPair x)

/-! ### Ports -/

/-- R64: the port addresses that carry CPU state: 09H on TLCS-470/470A, 14H on TLCS-470A (log 23). -/
def portReserved (s : Series) (p : BitVec 5) : Bool :=
  (s != .s47 && p == 0x09) || (s == .s470A && p == 0x14)

/-- `PortKind(p)`. -/
def Device.kindOf (d : Device) (p : BitVec 5) : PortKind := d.portKind.get p.toFin

/-- The check of a port access: `ReservedPort` before `PortAbsent` (R60, R64, R302). -/
def State.portFault (s : State) (p : BitVec 5) : Option Fault :=
  if portReserved s.dev.series p then some (.reservedPort p)
  else if Device.kindOf s.dev p = .absent then some (.portAbsent p)
  else none

/-- `PortLatch[p]` (10_state.md R38). -/
def State.latchOf (s : State) (p : BitVec 5) : Nibble := s.latch.get p.toFin

/-- The value the environment supplies to the next port read (R61; log 15). -/
def State.pinValue (s : State) : Nibble :=
  match s.pins with
  | v :: _ => v
  | [] => Config.freePin s.freeCount

/-- `PortRead(p)`: the draw is used up and the input event recorded (R61). The value is `pinValue`. -/
def State.drew (s : State) (p : BitVec 5) : State :=
  { s with pins := s.pins.tail, freeCount := s.freeCount + 1, events := .portIn p s.pinValue :: s.events }

/-- `PortWrite(p, v)`: the latch takes the value and the output event is recorded (R62). -/
def State.portWrite (s : State) (p : BitVec 5) (v : Nibble) : State :=
  { s with latch := s.latch.set p.toNat v p.isLt, events := .portOut p v :: s.events }

/-- `PortBitSource(p)` of 45_bit_manipulation.md (R63): the latch of an output port, else a draw. -/
def State.bitSource (s : State) (p : BitVec 5) : Nibble :=
  if Device.kindOf s.dev p = .output then s.latchOf p else s.pinValue

/-- The state after `PortBitSource(p)`: a draw is recorded unless the port is an output port (R63). -/
def State.bitSourced (s : State) (p : BitVec 5) : State :=
  if Device.kindOf s.dev p = .output then s else s.drew p

/-! ### Registers and flags -/

/-- `pc <- npc` for an instruction of `len` bytes (R110). -/
def State.advance (s : State) (len : Nat) : State := { s with pc := s.npc len }

/-- `pc <- t`, at the width of PC (R22). -/
def State.jump (s : State) (t : CodeAddr) : State := { s with pc := wrapPc s.dev.series t }

/-- `A <- v; ZF <- Z(v); SF <- f`. -/
def State.putA (s : State) (v : Nibble) (f : Bool) : State := { s with a := v, zf := isZero v, sf := f }

/-- `SF <- f`. -/
def State.setSF (s : State) (f : Bool) : State := { s with sf := f }

/-- `ZF <- z; SF <- f`. -/
def State.setZS (s : State) (z f : Bool) : State := { s with zf := z, sf := f }

/-- The flags of a compare that writes the carry: `CF <- C; ZF <- Z(r); SF <- ~Z(r)` (43_arithmetic_logical.md R160 to R163). -/
def State.setCompare (s : State) (r : Nibble × Bool) : State := { s with cf := r.2, zf := isZero r.1, sf := !isZero r.1 }

/-- `DMB <- v`, at the width of DMB (R27). -/
def State.setDmb (s : State) (v : BitVec 2) : State := { s with dmb := narrowDmb s.dev.series v }

/-- Bit `i` (0 or 1) of DMB. -/
def State.dmbBit (s : State) (i : Nat) : Bool := s.dmb.getLsbD i

/-- FLAG (10_state.md R26): GF is a member on TLCS-47 only. -/
def State.flags (s : State) : Flags := ⟨s.cf, s.zf, s.sf, s.gf && s.dev.series == .s47⟩

/-- `FLAG <- f` (R26). -/
def State.setFlags (s : State) (f : Flags) : State :=
  { s with cf := f.cf, zf := f.zf, sf := f.sf, gf := if s.dev.series = .s47 then f.gf else s.gf }

/-! ### Stack (48_subroutine.md R274) -/

/-- The check of a stack access: `StackLocationUnusable`. -/
def State.stackFault (s : State) (i : BitVec 4) : Option Fault :=
  if s.dev.stackUsable.getLsbD i.toNat then none else some (.stackLocationUnusable i)

/-- `Push(ret, f)`: location SPW is written, then SPW decremented. -/
def State.push (s : State) (ret : CodeAddr) (f : Flags) : State :=
  { s with
    stack := s.stack.set s.spw.toNat ⟨ret.extractLsb' 0 13, f⟩ s.spw.isLt
    stk13 := s.stk13.set s.spw.toNat (s.dev.series != .s47 && ret.getLsbD 13) s.spw.isLt
    spw := s.spw - 1 }

/-- The location a pop reads. -/
def State.popIndex (s : State) : BitVec 4 := s.spw + 1

/-- The stack location a pop reads. -/
def State.popLoc (s : State) : StackLoc := s.stack.get s.popIndex.toFin

/-- The return address a pop gives: `b · v` where PC has 14 bits, else `v[11:0]` (R273, R286). -/
def State.popPc (s : State) : CodeAddr :=
  match s.dev.series with
  | .s47 => 0#2 ++ s.popLoc.pc.extractLsb' 0 12
  | _ => BitVec.ofBool (s.stk13.get s.popIndex.toFin) ++ s.popLoc.pc

/-- The state after the pop of a return: SPW incremented, pc restored; the location keeps its contents. -/
def State.pop (s : State) : State := { s with spw := s.popIndex, pc := s.popPc }

/-- A call (R270, R272): the address of the next instruction is pushed, the flag part of the location is a FREE VALUE (R31, D6;
log 14). -/
def State.callTo (s : State) (len : Nat) (target : CodeAddr) : Result :=
  checked [s.stackFault s.spw]
    { (s.push (s.npc len) (Config.freeFlags s.freeCount)).jump target with freeCount := s.freeCount + 1 }

/-- A branch (47_branch.md R264): taken if SF is 1, and SF is 1 after it either way. -/
def State.branch (s : State) (len : Nat) (target : CodeAddr) : State :=
  { s with pc := if s.sf then wrapPc s.dev.series target else s.npc len, sf := true }

/-! ### Interrupts (60_exceptions.md R303, R304) -/

/-- `IntConfig.enabled(i, EIR)` (R305). -/
def IntConfig.enabled (c : IntConfig) (i : Fin 6) (eir : BitVec 4) : Bool := (c.enabledAt.get i).getLsbD eir.toNat

/-- Membership of `P`: the request is latched and enabled. -/
def State.pending (s : State) (i : Fin 6) : Bool := s.il.getLsbD i.val && IntConfig.enabled s.dev.intConfig i s.eir

/-- `IntConfig.highest(P)`: the first pending request in priority order; the requests an incomplete order leaves out come after it,
from 5 down (log 13). -/
def State.highest (s : State) : Option (Fin 6) :=
  (s.dev.intConfig.order ++ [5, 4, 3, 2, 1, 0]).find? s.pending

/-- The request that is accepted at this boundary if acceptance is not delayed: `EIF = 1` and `P` not empty. -/
def State.acceptable (s : State) : Option (Fin 6) := if s.eif then s.highest else none

/-- The latch bits that arrive at this boundary (R303); none past the end of the schedule (log 16). -/
def State.requests (s : State) : BitVec 6 :=
  match s.schedule with
  | b :: _ => b.requests
  | [] => 0

/-- Whether acceptance is delayed past this boundary (R304). -/
def State.holding (s : State) : Bool :=
  match s.schedule with
  | b :: _ => b.hold
  | [] => false

/-- The input events of arriving requests. -/
def irqEvents (r : BitVec 6) : List Event := ([5, 4, 3, 2, 1, 0] : List (Fin 6)).filterMap fun i => if r.getLsbD i.val then some (.irq i) else none

/-- The environment acts at an instruction boundary (R303): it sets latch bits, and a request that meets a set latch is lost. -/
def State.boundary (s : State) : State :=
  { s with schedule := s.schedule.tail, il := s.il ||| s.requests, events := irqEvents s.requests ++ s.events }

/-- TAKING AN INTERRUPT (R304): the pc of the instruction about to be fetched and FLAG are pushed, EIF and the latch cleared, pc goes
to the vector; the flags the routine sees are a FREE VALUE (D11; log 14). -/
def State.takeInterrupt (s : State) (i : Fin 6) : Result :=
  checked [s.stackFault s.spw]
    { ((s.push s.pc s.flags).jump (s.dev.intConfig.vector.get i)).setFlags (Config.freeFlags s.freeCount) with
      eif := false, il := s.il &&& ~~~(1#6 <<< i.val), freeCount := s.freeCount + 1 }

/-- RETURN FROM INTERRUPT (49_interrupt_stk13_cpu.md R286): pc and FLAG are restored from the stack and EIF set. -/
def State.returnFromInterrupt (s : State) : Result :=
  checked [s.stackFault s.popIndex] { s.pop.setFlags s.popLoc.flag with eif := true }

end Sys2Proof.Machine
end

