-- ==== Sys2Proof/Machine/Arithmetic.lean ====
section
/-! DEFINITION. Arithmetic and logical operations, 7.2 (4) (43_arithmetic_logical.md R160 to R189). Every subtraction and compare is
reversed: the operand named first is the subtrahend. `add4` answers the carry, `sub4` answers C (1 when there is no borrow). -/

namespace Sys2Proof.Machine

/-! ### Compare -/

/-- R160 `CMPR A, @HL` -/
def execCmprAAtHL (s : State) : Result :=
  checked [s.ramFault s.eaHL] ((s.setCompare (sub4 (s.readRam s.eaHL) s.a false)).advance 1)

/-- R161 `CMPR A, x` -/
def execCmprAX (x : Byte) (s : State) : Result :=
  checked [s.ramFault (s.eaX x)] ((s.setCompare (sub4 (s.readRam (s.eaX x)) s.a false)).advance 2)

/-- R162 `CMPR y, #k` -/
def execCmprYK (y k : Nibble) (s : State) : Result :=
  checked [s.ramFault (eaY y)] ((s.setCompare (sub4 k (s.readRam (eaY y)) false)).advance 2)

/-- R163 `CMPR A, #k` -/
def execCmprAK (k : Nibble) (s : State) : Result :=
  checked [] ((s.setCompare (sub4 k s.a false)).advance 1)

/-- R164 `CMPR H, #k`: CF is kept, SF receives C. -/
def execCmprHK (k : Nibble) (s : State) : Result :=
  let (r, c) := sub4 k s.h false
  checked [] ((s.setZS (isZero r) c).advance 2)

/-- R165 `CMPR L, #k`: CF is kept, SF receives C. -/
def execCmprLK (k : Nibble) (s : State) : Result :=
  let (r, c) := sub4 k s.l false
  checked [] ((s.setZS (isZero r) c).advance 2)

/-! ### Addition and subtraction -/

/-- R166 `ADD A, @HL` -/
def execAddAAtHL (s : State) : Result :=
  let (r, c) := add4 s.a (s.readRam s.eaHL) false
  checked [s.ramFault s.eaHL] ((s.putA r (!c)).advance 1)

/-- R167 `ADDC A, @HL` -/
def execAddcAAtHL (s : State) : Result :=
  let (r, c) := add4 s.a (s.readRam s.eaHL) s.cf
  checked [s.ramFault s.eaHL] ({ s.putA r (!c) with cf := c }.advance 1)

/-- R168 `ADD @HL, #k` -/
def execAddAtHLK (k : Nibble) (s : State) : Result :=
  let (r, c) := add4 (s.readRam s.eaHL) k false
  checked [s.ramFault s.eaHL] (((s.writeRam s.eaHL r).setZS (isZero r) (!c)).advance 2)

/-- R169 `ADD y, #k` -/
def execAddYK (y k : Nibble) (s : State) : Result :=
  let (r, c) := add4 (s.readRam (eaY y)) k false
  checked [s.ramFault (eaY y)] (((s.writeRam (eaY y) r).setZS (isZero r) (!c)).advance 2)

/-- R170 `ADD A, #k` -/
def execAddAK (k : Nibble) (s : State) : Result :=
  let (r, c) := add4 s.a k false
  checked [] ((s.putA r (!c)).advance 2)

/-- R171 `ADD H, #k` -/
def execAddHK (k : Nibble) (s : State) : Result :=
  let (r, c) := add4 s.h k false
  checked [] (({ s with h := r }.setZS (isZero r) (!c)).advance 2)

/-- R172 `ADD L, #k` -/
def execAddLK (k : Nibble) (s : State) : Result :=
  let (r, c) := add4 s.l k false
  checked [] (({ s with l := r }.setZS (isZero r) (!c)).advance 2)

/-- R173 `SUBRC A, @HL`: the borrow in is the inverse of CF. -/
def execSubrcAAtHL (s : State) : Result :=
  let (r, c) := sub4 (s.readRam s.eaHL) s.a (!s.cf)
  checked [s.ramFault s.eaHL] ({ s.putA r c with cf := c }.advance 1)

/-- R174 `SUBR @HL, #k` (C6) -/
def execSubrAtHLK (k : Nibble) (s : State) : Result :=
  let (r, c) := sub4 k (s.readRam s.eaHL) false
  checked [s.ramFault s.eaHL] (((s.writeRam s.eaHL r).setZS (isZero r) c).advance 2)

/-- R175 `SUBR A, #k` -/
def execSubrAK (k : Nibble) (s : State) : Result :=
  let (r, c) := sub4 k s.a false
  checked [] ((s.putA r c).advance 2)

/-! ### Increment and decrement -/

/-- R176 `INC @HL` -/
def execIncAtHL (s : State) : Result :=
  let (r, c) := add4 (s.readRam s.eaHL) 1 false
  checked [s.ramFault s.eaHL] (((s.writeRam s.eaHL r).setZS (isZero r) (!c)).advance 1)

/-- R177 `DEC @HL` -/
def execDecAtHL (s : State) : Result :=
  let (r, c) := sub4 (s.readRam s.eaHL) 1 false
  checked [s.ramFault s.eaHL] (((s.writeRam s.eaHL r).setZS (isZero r) c).advance 1)

/-- R178 `INC A` -/
def execIncA (s : State) : Result :=
  let (r, c) := add4 s.a 1 false
  checked [] ((s.putA r (!c)).advance 1)

/-- R179 `DEC A` -/
def execDecA (s : State) : Result :=
  let (r, c) := sub4 s.a 1 false
  checked [] ((s.putA r c).advance 1)

/-- R180 `INC L` -/
def execIncL (s : State) : Result :=
  let (r, c) := add4 s.l 1 false
  checked [] (({ s with l := r }.setZS (isZero r) (!c)).advance 1)

/-- R181 `DEC L` -/
def execDecL (s : State) : Result :=
  let (r, c) := sub4 s.l 1 false
  checked [] (({ s with l := r }.setZS (isZero r) c).advance 1)

/-! ### Logical operations -/

/-- R182 `AND A, @HL` -/
def execAndAAtHL (s : State) : Result :=
  let r := s.a &&& s.readRam s.eaHL
  checked [s.ramFault s.eaHL] ((s.putA r (!isZero r)).advance 1)

/-- R183 `AND @HL, #k` -/
def execAndAtHLK (k : Nibble) (s : State) : Result :=
  let r := s.readRam s.eaHL &&& k
  checked [s.ramFault s.eaHL] (((s.writeRam s.eaHL r).setZS (isZero r) (!isZero r)).advance 2)

/-- R184 `AND A, #k` -/
def execAndAK (k : Nibble) (s : State) : Result :=
  let r := s.a &&& k
  checked [] ((s.putA r (!isZero r)).advance 2)

/-- R185 `OR A, @HL` -/
def execOrAAtHL (s : State) : Result :=
  let r := s.a ||| s.readRam s.eaHL
  checked [s.ramFault s.eaHL] ((s.putA r (!isZero r)).advance 1)

/-- R186 `OR @HL, #k` -/
def execOrAtHLK (k : Nibble) (s : State) : Result :=
  let r := s.readRam s.eaHL ||| k
  checked [s.ramFault s.eaHL] (((s.writeRam s.eaHL r).setZS (isZero r) (!isZero r)).advance 2)

/-- R187 `OR A, #k` -/
def execOrAK (k : Nibble) (s : State) : Result :=
  let r := s.a ||| k
  checked [] ((s.putA r (!isZero r)).advance 2)

/-- R188 `XOR A, @HL` (C7) -/
def execXorAAtHL (s : State) : Result :=
  let r := s.a ^^^ s.readRam s.eaHL
  checked [s.ramFault s.eaHL] ((s.putA r (!isZero r)).advance 1)

end Sys2Proof.Machine
end

