-- ==== Sys2Proof/Machine/BitManipulation.lean ====
section
/-! DEFINITION. Bit manipulation, 7.2 (6) (45_bit_manipulation.md R210 to R224). `TEST` loads the inverted bit into SF, `TESTP` the
bit (C5). -/

namespace Sys2Proof.Machine

/-- R210 `CLR @HL, b` -/
def execClrAtHLB (b : BitVec 2) (s : State) : Result :=
  checked [s.ramFault s.eaHL] (((s.writeRam s.eaHL (clrBit (s.readRam s.eaHL) b)).setSF true).advance 1)

/-- R211 `CLR y, b` -/
def execClrYB (y : Nibble) (b : BitVec 2) (s : State) : Result :=
  checked [s.ramFault (eaY y)] (((s.writeRam (eaY y) (clrBit (s.readRam (eaY y)) b)).setSF true).advance 2)

/-- R212 `CLR %p, b` -/
def execClrPB (p : Nibble) (b : BitVec 2) (s : State) : Result :=
  checked [s.portFault (portLow p)]
    (((s.portWrite (portLow p) (clrBit (s.latchOf (portLow p)) b)).setSF true).advance 2)

/-- R213 `CLR @L` -/
def execClrAtL (s : State) : Result :=
  checked [s.portFault s.portAtL] (((s.portWrite s.portAtL (clrBit (s.latchOf s.portAtL) s.bitAtL)).setSF true).advance 1)

/-- R214 `SET @HL, b` -/
def execSetAtHLB (b : BitVec 2) (s : State) : Result :=
  checked [s.ramFault s.eaHL] (((s.writeRam s.eaHL (setBit (s.readRam s.eaHL) b)).setSF true).advance 1)

/-- R215 `SET y, b` -/
def execSetYB (y : Nibble) (b : BitVec 2) (s : State) : Result :=
  checked [s.ramFault (eaY y)] (((s.writeRam (eaY y) (setBit (s.readRam (eaY y)) b)).setSF true).advance 2)

/-- R216 `SET %p, b` -/
def execSetPB (p : Nibble) (b : BitVec 2) (s : State) : Result :=
  checked [s.portFault (portLow p)]
    (((s.portWrite (portLow p) (setBit (s.latchOf (portLow p)) b)).setSF true).advance 2)

/-- R217 `SET @L` -/
def execSetAtL (s : State) : Result :=
  checked [s.portFault s.portAtL] (((s.portWrite s.portAtL (setBit (s.latchOf s.portAtL) s.bitAtL)).setSF true).advance 1)

/-- R218 `TEST @HL, b` -/
def execTestAtHLB (b : BitVec 2) (s : State) : Result :=
  checked [s.ramFault s.eaHL] ((s.setSF (!bitOf (s.readRam s.eaHL) b)).advance 1)

/-- R219 `TEST y, b` -/
def execTestYB (y : Nibble) (b : BitVec 2) (s : State) : Result :=
  checked [s.ramFault (eaY y)] ((s.setSF (!bitOf (s.readRam (eaY y)) b)).advance 2)

/-- R220 `TESTP y, b` -/
def execTestpYB (y : Nibble) (b : BitVec 2) (s : State) : Result :=
  checked [s.ramFault (eaY y)] ((s.setSF (bitOf (s.readRam (eaY y)) b)).advance 2)

/-- R221 `TEST %p, b` -/
def execTestPB (p : Nibble) (b : BitVec 2) (s : State) : Result :=
  checked [s.portFault (portLow p)]
    (((s.bitSourced (portLow p)).setSF (!bitOf (s.bitSource (portLow p)) b)).advance 2)

/-- R222 `TESTP %p, b` -/
def execTestpPB (p : Nibble) (b : BitVec 2) (s : State) : Result :=
  checked [s.portFault (portLow p)]
    (((s.bitSourced (portLow p)).setSF (bitOf (s.bitSource (portLow p)) b)).advance 2)

/-- R223 `TEST @L` -/
def execTestAtL (s : State) : Result :=
  checked [s.portFault s.portAtL] (((s.bitSourced s.portAtL).setSF (!bitOf (s.bitSource s.portAtL) s.bitAtL)).advance 1)

/-- R224 `TEST A, b` -/
def execTestAB (b : BitVec 2) (s : State) : Result := checked [] ((s.setSF (!bitOf s.a b)).advance 1)

end Sys2Proof.Machine
end

