-- ==== Sys2Proof/Machine/Branch.lean ====
section
/-! DEFINITION. Branch, 7.2 (9) (47_branch.md R260 to R264): the target is formed from the address after the branch. -/

namespace Sys2Proof.Machine

/-- R260 `BSS a`: the low six bits are replaced. -/
def execBss (d : BitVec 6) (s : State) : Result :=
  checked [] (s.branch 1 ((s.npc 1).extractLsb' 6 8 ++ d))

/-- R261 `BS a`: the low twelve bits are replaced; on TLCS-47 that is the whole PC. -/
def execBs (e : BitVec 12) (s : State) : Result :=
  checked [] (s.branch 2 ((s.npc 2).extractLsb' 12 2 ++ e))

/-- R262 `BSL a`, prefix 02H: bank 00B -/
def execBslBank0 (e : BitVec 12) (s : State) : Result := checked [] (s.branch 3 (0b00#2 ++ e))

/-- R262 `BSL a`, prefix 03H: bank 01B -/
def execBslBank1 (e : BitVec 12) (s : State) : Result := checked [] (s.branch 3 (0b01#2 ++ e))

/-- R262 `BSL a`, prefix 1CH: bank 10B -/
def execBslBank2 (e : BitVec 12) (s : State) : Result := checked [] (s.branch 3 (0b10#2 ++ e))

/-- R262 `BSL a`, prefix 01H: bank 11B -/
def execBslBank3 (e : BitVec 12) (s : State) : Result := checked [] (s.branch 3 (0b11#2 ++ e))

end Sys2Proof.Machine
end

