-- ==== Sys2Proof/Machine/DataTransfer.lean ====
section
/-! DEFINITION. Data transfer, 7.2 (1) (40_data_transfer.md R111 to R127). -/

namespace Sys2Proof.Machine

/-- R111 `LD A, @HL` -/
def execLdAAtHL (s : State) : Result :=
  checked [s.ramFault s.eaHL] ((s.putA (s.readRam s.eaHL) true).advance 1)

/-- R112 `LD A, x` -/
def execLdAX (x : Byte) (s : State) : Result :=
  checked [s.ramFault (s.eaX x)] ((s.putA (s.readRam (s.eaX x)) true).advance 2)

/-- R113 `LD HL, x` -/
def execLdHLX (x : Byte) (s : State) : Result :=
  let lo := s.readRam (s.eaX x)
  let hi := s.readRam (s.eaX (x + 1))
  checked [pairFault x, s.ramFault (s.eaX x), s.ramFault (s.eaX (x + 1))] ({ s with l := lo, h := hi, sf := true }.advance 2)

/-- R114 `LDL A, @DC` -/
def execLdlAAtDC (s : State) : Result :=
  checked [s.tableFault s.tableAddr] ((s.putA ((s.romByte s.tableAddr).extractLsb' 0 4) true).advance 1)

/-- R115 `LDH A, @DC+` -/
def execLdhAAtDCInc (s : State) : Result :=
  checked [s.tableFault s.tableAddr]
    ({ s.putA ((s.romByte s.tableAddr).extractLsb' 4 4) true with dc := s.dc + 1 }.advance 1)

/-- R116 `ST A, @HL` -/
def execStAAtHL (s : State) : Result :=
  checked [s.ramFault s.eaHL] (((s.writeRam s.eaHL s.a).setSF true).advance 1)

/-- The increment of L after a store, with its flags (R117, R120). -/
def State.incL (s : State) : State :=
  let (r, c) := add4 s.l 1 false
  { s with l := r, zf := isZero r, sf := !c }

/-- The decrement of L after a store, with its flags (R118). -/
def State.decL (s : State) : State :=
  let (r, c) := sub4 s.l 1 false
  { s with l := r, zf := isZero r, sf := c }

/-- R117 `ST A, @HL+` -/
def execStAAtHLInc (s : State) : Result :=
  checked [s.ramFault s.eaHL] ((s.writeRam s.eaHL s.a).incL.advance 1)

/-- R118 `ST A, @HL-` -/
def execStAAtHLDec (s : State) : Result :=
  checked [s.ramFault s.eaHL] ((s.writeRam s.eaHL s.a).decL.advance 1)

/-- R119 `ST A, x` -/
def execStAX (x : Byte) (s : State) : Result :=
  checked [s.ramFault (s.eaX x)] (((s.writeRam (s.eaX x) s.a).setSF true).advance 2)

/-- R120 `ST #k, @HL+` -/
def execStKAtHLInc (k : Nibble) (s : State) : Result :=
  checked [s.ramFault s.eaHL] ((s.writeRam s.eaHL k).incL.advance 1)

/-- R121 `ST #k, y` -/
def execStKY (k y : Nibble) (s : State) : Result :=
  checked [s.ramFault (eaY y)] (((s.writeRam (eaY y) k).setSF true).advance 2)

/-- R122 `LD A, #k` -/
def execLdAK (k : Nibble) (s : State) : Result := checked [] ((s.putA k true).advance 1)

/-- R123 `LD H, #k` -/
def execLdHK (k : Nibble) (s : State) : Result := checked [] ({ s with h := k, sf := true }.advance 1)

/-- R124 `LD L, #k` -/
def execLdLK (k : Nibble) (s : State) : Result := checked [] ({ s with l := k, sf := true }.advance 1)

/-- R125 `LD HL, #jk`, the two instructions R123 and R124 as one assembler form (log 22). -/
def execLdHLJK (j k : Nibble) (s : State) : Result := checked [] ({ s with h := j, l := k, sf := true }.advance 2)

/-- R126 `MOV H, A` (source first: `A <- H`) -/
def execMovHA (s : State) : Result := checked [] ((s.putA s.h true).advance 1)

/-- R127 `MOV L, A` (source first: `A <- L`) -/
def execMovLA (s : State) : Result := checked [] ((s.putA s.l true).advance 1)

end Sys2Proof.Machine
end

