-- ==== Sys2Proof/Machine/Exchange.lean ====
section
/-! DEFINITION. Exchange, 7.2 (2) (41_exchange.md R130 to R134): both old values are read before either is written. -/

namespace Sys2Proof.Machine

/-- R130 `XCH A, @HL` -/
def execXchAAtHL (s : State) : Result :=
  checked [s.ramFault s.eaHL] (((s.writeRam s.eaHL s.a).putA (s.readRam s.eaHL) true).advance 1)

/-- R131 `XCH A, x` -/
def execXchAX (x : Byte) (s : State) : Result :=
  checked [s.ramFault (s.eaX x)] (((s.writeRam (s.eaX x) s.a).putA (s.readRam (s.eaX x)) true).advance 2)

/-- R132 `XCH HL, x` -/
def execXchHLX (x : Byte) (s : State) : Result :=
  let lo := s.readRam (s.eaX x)
  let hi := s.readRam (s.eaX (x + 1))
  checked [pairFault x, s.ramFault (s.eaX x), s.ramFault (s.eaX (x + 1))]
    ({ (s.writeRam (s.eaX x) s.l).writeRam (s.eaX (x + 1)) s.h with l := lo, h := hi, sf := true }.advance 2)

/-- R133 `XCH A, H` -/
def execXchAH (s : State) : Result := checked [] (({ s with h := s.a }.putA s.h true).advance 1)

/-- R134 `XCH A, L` -/
def execXchAL (s : State) : Result := checked [] (({ s with l := s.a }.putA s.l true).advance 1)

end Sys2Proof.Machine
end

