-- ==== Sys2Proof/Machine/FlagBank.lean ====
section
/-! DEFINITION. Flag manipulation, 7.2 (7), and data memory bank control, 7.2 (8) (46_flag_and_bank_control.md R230 to R252). -/

namespace Sys2Proof.Machine

/-- R230 `TEST CF` -/
def execTestCF (s : State) : Result := checked [] ({ s with sf := !s.cf, cf := false }.advance 1)

/-- R231 `TESTP CF` -/
def execTestpCF (s : State) : Result := checked [] ({ s with sf := s.cf, cf := true }.advance 1)

/-- R232 `TESTP ZF` -/
def execTestpZF (s : State) : Result := checked [] ((s.setSF s.zf).advance 1)

/-- R233 `CLR GF` (TLCS-47) -/
def execClrGF (s : State) : Result := checked [] ({ s with gf := false, sf := true }.advance 1)

/-- R234 `SET GF` (TLCS-47) -/
def execSetGF (s : State) : Result := checked [] ({ s with gf := true, sf := true }.advance 1)

/-- R235 `TESTP GF` (TLCS-47) -/
def execTestpGF (s : State) : Result := checked [] ((s.setSF s.gf).advance 1)

/-! ### DMB on TLCS-470 -/

/-- R236 `CLR DMB` -/
def execClrDMB (s : State) : Result := checked [] (((s.setDmb 0).setSF true).advance 2)

/-- R237 `SET DMB` -/
def execSetDMB (s : State) : Result := checked [] (((s.setDmb 1).setSF true).advance 2)

/-- R238 `TEST DMB` -/
def execTestDMB (s : State) : Result := checked [] ((s.setSF (!s.dmbBit 0)).advance 2)

/-- R239 `TESTP DMB` -/
def execTestpDMB (s : State) : Result := checked [] ((s.setSF (s.dmbBit 0)).advance 2)

/-! ### DMB on TLCS-470A -/

/-- R240 `CLR DMB0` -/
def execClrDMB0 (s : State) : Result := checked [] (((s.setDmb (s.dmb &&& 0b10)).setSF true).advance 2)

/-- R241 `SET DMB0` -/
def execSetDMB0 (s : State) : Result := checked [] (((s.setDmb (s.dmb ||| 0b01)).setSF true).advance 2)

/-- R242 `TEST DMB0` (C10) -/
def execTestDMB0 (s : State) : Result := checked [] ((s.setSF (!s.dmbBit 0)).advance 2)

/-- R243 `TESTP DMB0` (C10) -/
def execTestpDMB0 (s : State) : Result := checked [] ((s.setSF (s.dmbBit 0)).advance 2)

/-- R244 `CLR DMB1` -/
def execClrDMB1 (s : State) : Result := checked [] (((s.setDmb (s.dmb &&& 0b01)).setSF true).advance 3)

/-- R245 `SET DMB1` -/
def execSetDMB1 (s : State) : Result := checked [] (((s.setDmb (s.dmb ||| 0b10)).setSF true).advance 3)

/-- R246 `TEST DMB1` -/
def execTestDMB1 (s : State) : Result := checked [] ((s.setSF (!s.dmbBit 1)).advance 3)

/-- R247 `TESTP DMB1` (recovered row, C9; log 32) -/
def execTestpDMB1 (s : State) : Result := checked [] ((s.setSF (s.dmbBit 1)).advance 3)

/-- R248 `LD DMB, #k` (inferred by the spec, D21; log 32) -/
def execLdDMBK (k : BitVec 2) (s : State) : Result := checked [] (((s.setDmb k).setSF true).advance 3)

/-- R249 `LD DMB, @HL`: the word is read in the bank of the old DMB. -/
def execLdDMBAtHL (s : State) : Result :=
  checked [s.ramFault s.eaHL] (((s.setDmb ((s.readRam s.eaHL).extractLsb' 0 2)).setSF true).advance 3)

/-- R250 `MOV A, DMB` (source first: `DMB <- A[1:0]`) -/
def execMovADMB (s : State) : Result := checked [] (((s.setDmb (s.a.extractLsb' 0 2)).setSF true).advance 3)

/-- R251 `MOV DMB, A` (source first: `A <- 00B · DMB`) -/
def execMovDMBA (s : State) : Result :=
  let v : Nibble := 0#2 ++ s.dmb
  checked [] ((s.putA v (!isZero v)).advance 3)

/-- R252 `ST DMB, @HL` -/
def execStDMBAtHL (s : State) : Result :=
  let v : Nibble := 0#2 ++ s.dmb
  checked [s.ramFault s.eaHL] (((s.writeRam s.eaHL v).setSF (!isZero v)).advance 3)

end Sys2Proof.Machine
end

