-- ==== Sys2Proof/Machine/InputOutput.lean ====
section
/-! DEFINITION. Input and output, 7.2 (3) (42_input_output.md R140 to R147). -/

namespace Sys2Proof.Machine

/-- R140 `IN %p, A`, ports 00H to 0FH: SF receives the inverse of the zero detect. -/
def execInPA (p : Nibble) (s : State) : Result :=
  checked [s.portFault (portLow p)] (((s.drew (portLow p)).putA s.pinValue (!isZero s.pinValue)).advance 2)

/-- R141 `IN %p, A`, ports 10H to 1FH: SF receives 1. -/
def execInPAHigh (p : Nibble) (s : State) : Result :=
  checked [s.portFault (portHigh p)] (((s.drew (portHigh p)).putA s.pinValue true).advance 2)

/-- R142 `IN %p, @HL`, ports 00H to 0FH: SF receives the inverse of the zero detect, ZF is kept. -/
def execInPAtHL (p : Nibble) (s : State) : Result :=
  checked [s.portFault (portLow p), s.ramFault s.eaHL]
    ((((s.drew (portLow p)).writeRam s.eaHL s.pinValue).setSF (!isZero s.pinValue)).advance 2)

/-- R143 `IN %p, @HL`, ports 10H to 1FH: SF receives 1, ZF is kept. -/
def execInPAtHLHigh (p : Nibble) (s : State) : Result :=
  checked [s.portFault (portHigh p), s.ramFault s.eaHL]
    ((((s.drew (portHigh p)).writeRam s.eaHL s.pinValue).setSF true).advance 2)

/-- R144 `OUT A, %p`, ports 00H to 1FH. -/
def execOutAP (p : BitVec 5) (s : State) : Result :=
  checked [s.portFault p] (((s.portWrite p s.a).setSF true).advance 2)

/-- R145 `OUT @HL, %p`, ports 00H to 1FH. -/
def execOutAtHLP (p : BitVec 5) (s : State) : Result :=
  checked [s.ramFault s.eaHL, s.portFault p] (((s.portWrite p (s.readRam s.eaHL)).setSF true).advance 2)

/-- R146 `OUT #k, %p`, ports 00H to 0FH. -/
def execOutKP (k p : Nibble) (s : State) : Result :=
  checked [s.portFault (portLow p)] (((s.portWrite (portLow p) k).setSF true).advance 2)

/-- R147 `OUTB @HL`: the table byte's low nibble goes to port 01H, its high nibble to port 02H (log 31). -/
def execOutbAtHL (s : State) : Result :=
  let ta := s.outbAddr (s.readRam s.eaHL)
  let d := s.romByte ta
  checked [s.ramFault s.eaHL, s.tableFault ta, s.portFault 0x01, s.portFault 0x02]
    ((((s.portWrite 0x01 (d.extractLsb' 0 4)).portWrite 0x02 (d.extractLsb' 4 4)).setSF true).advance 1)

end Sys2Proof.Machine
end

