-- ==== Sys2Proof/Machine/InterruptControl.lean ====
section
/-! DEFINITION. Interrupt control, STK13 manipulation and CPU control, 7.2 (11) to (13) (49_interrupt_stk13_cpu.md R280 to R295). -/

namespace Sys2Proof.Machine

/-- R280 `XCH A, EIR`: ZF is not changed. -/
def execXchAEIR (s : State) : Result := checked [] ({ s with eir := s.a, a := s.eir, sf := true }.advance 1)

/-- R281 `EICLR IL, r` -/
def execEiclr (r : BitVec 6) (s : State) : Result :=
  checked [] ({ s with eif := true, il := s.il &&& r, sf := true }.advance 2)

/-- R282 `EI`, the case r = 111111B of R281 (log 22) -/
def execEi (s : State) : Result := checked [] ({ s with eif := true, sf := true }.advance 2)

/-- R283 `DICLR IL, r` -/
def execDiclr (r : BitVec 6) (s : State) : Result :=
  checked [] ({ s with eif := false, il := s.il &&& r, sf := true }.advance 2)

/-- R284 `DI`, the case r = 111111B of R283 (log 22) -/
def execDi (s : State) : Result := checked [] ({ s with eif := false, sf := true }.advance 2)

/-- R285 `CLR IL, r` -/
def execClrIL (r : BitVec 6) (s : State) : Result := checked [] ({ s with il := s.il &&& r, sf := true }.advance 2)

/-- R286 `RETI` -/
def execReti (s : State) : Result := s.returnFromInterrupt

/-! ### STK13 (TLCS-470A) -/

/-- `SPW13 <- A; STK13[A] <- v; SF <- 1` (R290, R291). -/
def State.putStk13 (s : State) (v : Bool) : State :=
  { s with spw13 := s.a, stk13 := s.stk13.set s.a.toNat v s.a.isLt, sf := true }

/-- R290 `CLR STK13` -/
def execClrSTK13 (s : State) : Result := checked [] ((s.putStk13 false).advance 3)

/-- R291 `SET STK13` -/
def execSetSTK13 (s : State) : Result := checked [] ((s.putStk13 true).advance 3)

/-- R292 `MOV A, SPW13` (source first: `SPW13 <- A`) -/
def execMovASPW13 (s : State) : Result := checked [] ({ s with spw13 := s.a, sf := true }.advance 2)

/-- R293 `MOV STK13, A` (source first: `A <- 000B · STK13[SPW13]`) -/
def execMovSTK13A (s : State) : Result :=
  checked [] ((s.putA (0#3 ++ BitVec.ofBool (s.stk13.get s.spw13.toFin)) true).advance 2)

/-- R295 `NOP` -/
def execNop (s : State) : Result := checked [] (s.advance 1)

end Sys2Proof.Machine
end

