-- ==== Sys2Proof/Machine/Rotation.lean ====
section
/-! DEFINITION. Rotation, 7.2 (5) (44_rotation.md R200, R201). -/

namespace Sys2Proof.Machine

/-- R200 `ROLC A` -/
def execRolcA (s : State) : Result :=
  let (r, out) := rotLeft s.a s.cf
  checked [] ({ s.putA r (!out) with cf := out }.advance 1)

/-- R201 `RORC A` -/
def execRorcA (s : State) : Result :=
  let (r, out) := rotRight s.a s.cf
  checked [] ({ s.putA r (!out) with cf := out }.advance 1)

end Sys2Proof.Machine
end

