-- ==== Sys2Proof/Machine/Subroutine.lean ====
section
/-! DEFINITION. Subroutine, 7.2 (10) (48_subroutine.md R270 to R274). No flag changes. -/

namespace Sys2Proof.Machine

/-- R270 `CALLS a` -/
def execCalls (n : Nibble) (s : State) : Result := s.callTo 1 (shortEntry n)

/-- R271 `CALLSS n`, the second spelling of R270 (C16; log 22) -/
def execCallss (n : Nibble) (s : State) : Result := s.callTo 1 (shortEntry n)

/-- R272 `CALL a` -/
def execCall (a : BitVec 11) (s : State) : Result := s.callTo 2 (0#3 ++ a)

/-- R273 `RET` -/
def execRet (s : State) : Result := checked [s.stackFault s.popIndex] s.pop

end Sys2Proof.Machine
end

