-- ==== Sys2Proof/Syntax.lean ====
section
/-! DEFINITION. The instructions: one constructor for each row of spec/opcode_table.json, in the table's order.
Register and flag operands are in the constructor's name, `AtHL`, `AtDC`, `AtL` stand for `@HL`, `@DC`, `@L`; the argument letters
are those of 00_scope.md R9. Each docstring gives the assembler form, the object code and the rule. -/

namespace Sys2Proof

/-- The instructions of TLCS-47, TLCS-470 and TLCS-470A (00_scope.md R2, 30_encoding.md R83). -/
inductive Instr where
  /-- `LD A, @HL`: `0000 1100` (R111) -/
  | ldAAtHL
  /-- `LD A, x`: `0011 1100 xxxx xxxx` (R112) -/
  | ldAX (x : Byte)
  /-- `LD HL, x`: `0010 1000 xxxx xxxx` (R113) -/
  | ldHLX (x : Byte)
  /-- `LDL A, @DC`: `0011 0011` (R114) -/
  | ldlAAtDC
  /-- `LDH A, @DC+`: `0011 0010` (R115) -/
  | ldhAAtDCInc
  /-- `ST A, @HL`: `0000 1111` (R116) -/
  | stAAtHL
  /-- `ST A, @HL+`: `0001 1010` (R117) -/
  | stAAtHLInc
  /-- `ST A, @HL-`: `0001 1011` (R118) -/
  | stAAtHLDec
  /-- `ST A, x`: `0011 1111 xxxx xxxx` (R119) -/
  | stAX (x : Byte)
  /-- `ST #k, @HL+`: `1111 kkkk` (R120) -/
  | stKAtHLInc (k : Nibble)
  /-- `ST #k, y`: `0010 1101 kkkk yyyy` (R121) -/
  | stKY (k : Nibble) (y : Nibble)
  /-- `LD A, #k`: `0100 kkkk` (R122) -/
  | ldAK (k : Nibble)
  /-- `LD H, #k`: `1100 kkkk` (R123) -/
  | ldHK (k : Nibble)
  /-- `LD L, #k`: `1110 kkkk` (R124) -/
  | ldLK (k : Nibble)
  /-- `LD HL, #jk`: `1100 jjjj 1110 kkkk` (R125; second spelling, no decoder row) -/
  | ldHLJK (j : Nibble) (k : Nibble)
  /-- `MOV H, A`: `0001 0000` (R126) -/
  | movHA
  /-- `MOV L, A`: `0001 0001` (R127) -/
  | movLA
  /-- `XCH A, @HL`: `0000 1101` (R130) -/
  | xchAAtHL
  /-- `XCH A, x`: `0011 1101 xxxx xxxx` (R131) -/
  | xchAX (x : Byte)
  /-- `XCH HL, x`: `0010 1001 xxxx xxxx` (R132) -/
  | xchHLX (x : Byte)
  /-- `XCH A, H`: `0011 0000` (R133) -/
  | xchAH
  /-- `XCH A, L`: `0011 0001` (R134) -/
  | xchAL
  /-- `IN %p, A`: `0011 1010 0010 pppp` (R140; port 0·p) -/
  | inPA (p : Nibble)
  /-- `IN %p, A`: `0011 1010 0000 pppp` (R141; TLCS-470, TLCS-470A; port 1·p) -/
  | inPAHigh (p : Nibble)
  /-- `IN %p, @HL`: `0011 1010 0110 pppp` (R142; port 0·p) -/
  | inPAtHL (p : Nibble)
  /-- `IN %p, @HL`: `0011 1010 0100 pppp` (R143; TLCS-470, TLCS-470A; port 1·p) -/
  | inPAtHLHigh (p : Nibble)
  /-- `OUT A, %p`: `0011 1010 10q0 pppp` (R144; port q·pppp) -/
  | outAP (p : BitVec 5)
  /-- `OUT @HL, %p`: `0011 1010 11q0 pppp` (R145; port q·pppp) -/
  | outAtHLP (p : BitVec 5)
  /-- `OUT #k, %p`: `0010 1100 kkkk pppp` (R146) -/
  | outKP (k : Nibble) (p : Nibble)
  /-- `OUTB @HL`: `0001 0010` (R147) -/
  | outbAtHL
  /-- `CMPR A, @HL`: `0001 0110` (R160) -/
  | cmprAAtHL
  /-- `CMPR A, x`: `0011 1110 xxxx xxxx` (R161) -/
  | cmprAX (x : Byte)
  /-- `CMPR y, #k`: `0010 1110 kkkk yyyy` (R162) -/
  | cmprYK (y : Nibble) (k : Nibble)
  /-- `CMPR A, #k`: `1101 kkkk` (R163) -/
  | cmprAK (k : Nibble)
  /-- `CMPR H, #k`: `0011 1000 1101 kkkk` (R164) -/
  | cmprHK (k : Nibble)
  /-- `CMPR L, #k`: `0011 1000 1001 kkkk` (R165) -/
  | cmprLK (k : Nibble)
  /-- `ADD A, @HL`: `0001 0111` (R166) -/
  | addAAtHL
  /-- `ADDC A, @HL`: `0001 0101` (R167) -/
  | addcAAtHL
  /-- `ADD @HL, #k`: `0011 1000 0100 kkkk` (R168) -/
  | addAtHLK (k : Nibble)
  /-- `ADD y, #k`: `0010 1111 kkkk yyyy` (R169) -/
  | addYK (y : Nibble) (k : Nibble)
  /-- `ADD A, #k`: `0011 1000 0000 kkkk` (R170) -/
  | addAK (k : Nibble)
  /-- `ADD H, #k`: `0011 1000 1100 kkkk` (R171) -/
  | addHK (k : Nibble)
  /-- `ADD L, #k`: `0011 1000 1000 kkkk` (R172) -/
  | addLK (k : Nibble)
  /-- `SUBRC A, @HL`: `0001 0100` (R173) -/
  | subrcAAtHL
  /-- `SUBR @HL, #k`: `0011 1000 0101 kkkk` (R174) -/
  | subrAtHLK (k : Nibble)
  /-- `SUBR A, #k`: `0011 1000 0001 kkkk` (R175) -/
  | subrAK (k : Nibble)
  /-- `INC @HL`: `0000 1010` (R176) -/
  | incAtHL
  /-- `DEC @HL`: `0000 1011` (R177) -/
  | decAtHL
  /-- `INC A`: `0000 1000` (R178) -/
  | incA
  /-- `DEC A`: `0000 1001` (R179) -/
  | decA
  /-- `INC L`: `0001 1000` (R180) -/
  | incL
  /-- `DEC L`: `0001 1001` (R181) -/
  | decL
  /-- `AND A, @HL`: `0001 1110` (R182) -/
  | andAAtHL
  /-- `AND @HL, #k`: `0011 1000 0111 kkkk` (R183) -/
  | andAtHLK (k : Nibble)
  /-- `AND A, #k`: `0011 1000 0011 kkkk` (R184) -/
  | andAK (k : Nibble)
  /-- `OR A, @HL`: `0001 1101` (R185) -/
  | orAAtHL
  /-- `OR @HL, #k`: `0011 1000 0110 kkkk` (R186) -/
  | orAtHLK (k : Nibble)
  /-- `OR A, #k`: `0011 1000 0010 kkkk` (R187) -/
  | orAK (k : Nibble)
  /-- `XOR A, @HL`: `0001 1111` (R188) -/
  | xorAAtHL
  /-- `ROLC A`: `0000 0101` (R200) -/
  | rolcA
  /-- `RORC A`: `0000 0111` (R201) -/
  | rorcA
  /-- `CLR @HL, b`: `0101 01bb` (R210) -/
  | clrAtHLB (b : BitVec 2)
  /-- `CLR y, b`: `0011 1001 01bb yyyy` (R211) -/
  | clrYB (y : Nibble) (b : BitVec 2)
  /-- `CLR %p, b`: `0011 1011 01bb pppp` (R212) -/
  | clrPB (p : Nibble) (b : BitVec 2)
  /-- `CLR @L`: `0011 0101` (R213) -/
  | clrAtL
  /-- `SET @HL, b`: `0101 00bb` (R214) -/
  | setAtHLB (b : BitVec 2)
  /-- `SET y, b`: `0011 1001 00bb yyyy` (R215) -/
  | setYB (y : Nibble) (b : BitVec 2)
  /-- `SET %p, b`: `0011 1011 00bb pppp` (R216) -/
  | setPB (p : Nibble) (b : BitVec 2)
  /-- `SET @L`: `0011 0100` (R217) -/
  | setAtL
  /-- `TEST @HL, b`: `0101 10bb` (R218) -/
  | testAtHLB (b : BitVec 2)
  /-- `TEST y, b`: `0011 1001 10bb yyyy` (R219) -/
  | testYB (y : Nibble) (b : BitVec 2)
  /-- `TESTP y, b`: `0011 1001 11bb yyyy` (R220) -/
  | testpYB (y : Nibble) (b : BitVec 2)
  /-- `TEST %p, b`: `0011 1011 10bb pppp` (R221) -/
  | testPB (p : Nibble) (b : BitVec 2)
  /-- `TESTP %p, b`: `0011 1011 11bb pppp` (R222) -/
  | testpPB (p : Nibble) (b : BitVec 2)
  /-- `TEST @L`: `0011 0111` (R223) -/
  | testAtL
  /-- `TEST A, b`: `0101 11bb` (R224) -/
  | testAB (b : BitVec 2)
  /-- `TEST CF`: `0000 0110` (R230) -/
  | testCF
  /-- `TESTP CF`: `0000 0100` (R231) -/
  | testpCF
  /-- `TESTP ZF`: `0000 1110` (R232) -/
  | testpZF
  /-- `CLR GF`: `0000 0010` (R233; TLCS-47) -/
  | clrGF
  /-- `SET GF`: `0000 0011` (R234; TLCS-47) -/
  | setGF
  /-- `TESTP GF`: `0000 0001` (R235; TLCS-47) -/
  | testpGF
  /-- `CLR DMB`: `0011 1011 0111 1001` (R236; TLCS-470) -/
  | clrDMB
  /-- `SET DMB`: `0011 1011 0011 1001` (R237; TLCS-470) -/
  | setDMB
  /-- `TEST DMB`: `0011 1011 1011 1001` (R238; TLCS-470) -/
  | testDMB
  /-- `TESTP DMB`: `0011 1011 1111 1001` (R239; TLCS-470) -/
  | testpDMB
  /-- `CLR DMB0`: `0011 1011 0111 1001` (R240; TLCS-470A) -/
  | clrDMB0
  /-- `SET DMB0`: `0011 1011 0011 1001` (R241; TLCS-470A) -/
  | setDMB0
  /-- `TEST DMB0`: `0011 1011 1011 1001` (R242; TLCS-470A) -/
  | testDMB0
  /-- `TESTP DMB0`: `0011 1011 1111 1001` (R243; TLCS-470A) -/
  | testpDMB0
  /-- `CLR DMB1`: `0000 0011 0011 1011 0101 1001` (R244; TLCS-470A) -/
  | clrDMB1
  /-- `SET DMB1`: `0000 0011 0011 1011 0001 1001` (R245; TLCS-470A) -/
  | setDMB1
  /-- `TEST DMB1`: `0000 0011 0011 1011 1001 1001` (R246; TLCS-470A) -/
  | testDMB1
  /-- `TESTP DMB1`: `0000 0011 0011 1011 1101 1001` (R247; TLCS-470A) -/
  | testpDMB1
  /-- `LD DMB, #k`: `0000 0011 0010 1100 00kk 1001` (R248; TLCS-470A) -/
  | ldDMBK (k : BitVec 2)
  /-- `LD DMB, @HL`: `0000 0011 0011 1010 1110 1001` (R249; TLCS-470A) -/
  | ldDMBAtHL
  /-- `MOV A, DMB`: `0000 0011 0011 1010 1010 1001` (R250; TLCS-470A) -/
  | movADMB
  /-- `MOV DMB, A`: `0000 0011 0011 1010 0010 1001` (R251; TLCS-470A) -/
  | movDMBA
  /-- `ST DMB, @HL`: `0000 0011 0011 1010 0110 1001` (R252; TLCS-470A) -/
  | stDMBAtHL
  /-- `BSS a`: `10dd dddd` (R260) -/
  | bss (d : BitVec 6)
  /-- `BS a`: `0110 eeee eeee eeee` (R261) -/
  | bs (e : BitVec 12)
  /-- `BSL a`: `0000 0010 0110 eeee eeee eeee` (R262; TLCS-470, TLCS-470A) -/
  | bslBank0 (e : BitVec 12)
  /-- `BSL a`: `0000 0011 0110 eeee eeee eeee` (R262; TLCS-470, TLCS-470A) -/
  | bslBank1 (e : BitVec 12)
  /-- `BSL a`: `0001 1100 0110 eeee eeee eeee` (R262; TLCS-470, TLCS-470A) -/
  | bslBank2 (e : BitVec 12)
  /-- `BSL a`: `0000 0001 0110 eeee eeee eeee` (R262; TLCS-470, TLCS-470A) -/
  | bslBank3 (e : BitVec 12)
  /-- `CALLS a`: `0111 nnnn` (R270) -/
  | calls (n : Nibble)
  /-- `CALLSS n`: `0111 nnnn` (R271; second spelling, no decoder row) -/
  | callss (n : Nibble)
  /-- `CALL a`: `0010 0aaa aaaa aaaa` (R272) -/
  | call (a : BitVec 11)
  /-- `RET`: `0010 1010` (R273) -/
  | ret
  /-- `XCH A, EIR`: `0001 0011` (R280) -/
  | xchAEIR
  /-- `EICLR IL, r`: `0011 0110 01rr rrrr` (R281) -/
  | eiclr (r : BitVec 6)
  /-- `EI`: `0011 0110 0111 1111` (R282; second spelling, no decoder row) -/
  | ei
  /-- `DICLR IL, r`: `0011 0110 10rr rrrr` (R283) -/
  | diclr (r : BitVec 6)
  /-- `DI`: `0011 0110 1011 1111` (R284; second spelling, no decoder row) -/
  | di
  /-- `CLR IL, r`: `0011 0110 11rr rrrr` (R285) -/
  | clrIL (r : BitVec 6)
  /-- `RETI`: `0010 1011` (R286) -/
  | reti
  /-- `CLR STK13`: `0000 0010 0011 1010 tttt tttt` (R290; TLCS-470A) -/
  | clrSTK13
  /-- `SET STK13`: `0000 0011 0011 1010 tttt tttt` (R291; TLCS-470A) -/
  | setSTK13
  /-- `MOV A, SPW13`: `0011 1010 1000 0100` (R292; TLCS-470A) -/
  | movASPW13
  /-- `MOV STK13, A`: `0011 1010 0000 0100` (R293; TLCS-470A) -/
  | movSTK13A
  /-- `NOP`: `0000 0000` (R295) -/
  | nop
deriving DecidableEq, Repr, Inhabited

end Sys2Proof
end

