-- ==== Sys2Proof/Machine/Dispatch.lean ====
section
/-! DEFINITION. One arm per constructor of Instr: the instruction's meaning. -/

namespace Sys2Proof.Machine

def exec (i : Instr) (s : State) : Host.Outcome State Fault Refusal :=
  match i with
  | .ldAAtHL => Sys2Proof.Machine.execLdAAtHL s
  | .ldAX x => Sys2Proof.Machine.execLdAX x s
  | .ldHLX x => Sys2Proof.Machine.execLdHLX x s
  | .ldlAAtDC => Sys2Proof.Machine.execLdlAAtDC s
  | .ldhAAtDCInc => Sys2Proof.Machine.execLdhAAtDCInc s
  | .stAAtHL => Sys2Proof.Machine.execStAAtHL s
  | .stAAtHLInc => Sys2Proof.Machine.execStAAtHLInc s
  | .stAAtHLDec => Sys2Proof.Machine.execStAAtHLDec s
  | .stAX x => Sys2Proof.Machine.execStAX x s
  | .stKAtHLInc k => Sys2Proof.Machine.execStKAtHLInc k s
  | .stKY k y => Sys2Proof.Machine.execStKY k y s
  | .ldAK k => Sys2Proof.Machine.execLdAK k s
  | .ldHK k => Sys2Proof.Machine.execLdHK k s
  | .ldLK k => Sys2Proof.Machine.execLdLK k s
  | .ldHLJK j k => Sys2Proof.Machine.execLdHLJK j k s
  | .movHA => Sys2Proof.Machine.execMovHA s
  | .movLA => Sys2Proof.Machine.execMovLA s
  | .xchAAtHL => Sys2Proof.Machine.execXchAAtHL s
  | .xchAX x => Sys2Proof.Machine.execXchAX x s
  | .xchHLX x => Sys2Proof.Machine.execXchHLX x s
  | .xchAH => Sys2Proof.Machine.execXchAH s
  | .xchAL => Sys2Proof.Machine.execXchAL s
  | .inPA p => Sys2Proof.Machine.execInPA p s
  | .inPAHigh p => Sys2Proof.Machine.execInPAHigh p s
  | .inPAtHL p => Sys2Proof.Machine.execInPAtHL p s
  | .inPAtHLHigh p => Sys2Proof.Machine.execInPAtHLHigh p s
  | .outAP p => Sys2Proof.Machine.execOutAP p s
  | .outAtHLP p => Sys2Proof.Machine.execOutAtHLP p s
  | .outKP k p => Sys2Proof.Machine.execOutKP k p s
  | .outbAtHL => Sys2Proof.Machine.execOutbAtHL s
  | .cmprAAtHL => Sys2Proof.Machine.execCmprAAtHL s
  | .cmprAX x => Sys2Proof.Machine.execCmprAX x s
  | .cmprYK y k => Sys2Proof.Machine.execCmprYK y k s
  | .cmprAK k => Sys2Proof.Machine.execCmprAK k s
  | .cmprHK k => Sys2Proof.Machine.execCmprHK k s
  | .cmprLK k => Sys2Proof.Machine.execCmprLK k s
  | .addAAtHL => Sys2Proof.Machine.execAddAAtHL s
  | .addcAAtHL => Sys2Proof.Machine.execAddcAAtHL s
  | .addAtHLK k => Sys2Proof.Machine.execAddAtHLK k s
  | .addYK y k => Sys2Proof.Machine.execAddYK y k s
  | .addAK k => Sys2Proof.Machine.execAddAK k s
  | .addHK k => Sys2Proof.Machine.execAddHK k s
  | .addLK k => Sys2Proof.Machine.execAddLK k s
  | .subrcAAtHL => Sys2Proof.Machine.execSubrcAAtHL s
  | .subrAtHLK k => Sys2Proof.Machine.execSubrAtHLK k s
  | .subrAK k => Sys2Proof.Machine.execSubrAK k s
  | .incAtHL => Sys2Proof.Machine.execIncAtHL s
  | .decAtHL => Sys2Proof.Machine.execDecAtHL s
  | .incA => Sys2Proof.Machine.execIncA s
  | .decA => Sys2Proof.Machine.execDecA s
  | .incL => Sys2Proof.Machine.execIncL s
  | .decL => Sys2Proof.Machine.execDecL s
  | .andAAtHL => Sys2Proof.Machine.execAndAAtHL s
  | .andAtHLK k => Sys2Proof.Machine.execAndAtHLK k s
  | .andAK k => Sys2Proof.Machine.execAndAK k s
  | .orAAtHL => Sys2Proof.Machine.execOrAAtHL s
  | .orAtHLK k => Sys2Proof.Machine.execOrAtHLK k s
  | .orAK k => Sys2Proof.Machine.execOrAK k s
  | .xorAAtHL => Sys2Proof.Machine.execXorAAtHL s
  | .rolcA => Sys2Proof.Machine.execRolcA s
  | .rorcA => Sys2Proof.Machine.execRorcA s
  | .clrAtHLB b => Sys2Proof.Machine.execClrAtHLB b s
  | .clrYB y b => Sys2Proof.Machine.execClrYB y b s
  | .clrPB p b => Sys2Proof.Machine.execClrPB p b s
  | .clrAtL => Sys2Proof.Machine.execClrAtL s
  | .setAtHLB b => Sys2Proof.Machine.execSetAtHLB b s
  | .setYB y b => Sys2Proof.Machine.execSetYB y b s
  | .setPB p b => Sys2Proof.Machine.execSetPB p b s
  | .setAtL => Sys2Proof.Machine.execSetAtL s
  | .testAtHLB b => Sys2Proof.Machine.execTestAtHLB b s
  | .testYB y b => Sys2Proof.Machine.execTestYB y b s
  | .testpYB y b => Sys2Proof.Machine.execTestpYB y b s
  | .testPB p b => Sys2Proof.Machine.execTestPB p b s
  | .testpPB p b => Sys2Proof.Machine.execTestpPB p b s
  | .testAtL => Sys2Proof.Machine.execTestAtL s
  | .testAB b => Sys2Proof.Machine.execTestAB b s
  | .testCF => Sys2Proof.Machine.execTestCF s
  | .testpCF => Sys2Proof.Machine.execTestpCF s
  | .testpZF => Sys2Proof.Machine.execTestpZF s
  | .clrGF => Sys2Proof.Machine.execClrGF s
  | .setGF => Sys2Proof.Machine.execSetGF s
  | .testpGF => Sys2Proof.Machine.execTestpGF s
  | .clrDMB => Sys2Proof.Machine.execClrDMB s
  | .setDMB => Sys2Proof.Machine.execSetDMB s
  | .testDMB => Sys2Proof.Machine.execTestDMB s
  | .testpDMB => Sys2Proof.Machine.execTestpDMB s
  | .clrDMB0 => Sys2Proof.Machine.execClrDMB0 s
  | .setDMB0 => Sys2Proof.Machine.execSetDMB0 s
  | .testDMB0 => Sys2Proof.Machine.execTestDMB0 s
  | .testpDMB0 => Sys2Proof.Machine.execTestpDMB0 s
  | .clrDMB1 => Sys2Proof.Machine.execClrDMB1 s
  | .setDMB1 => Sys2Proof.Machine.execSetDMB1 s
  | .testDMB1 => Sys2Proof.Machine.execTestDMB1 s
  | .testpDMB1 => Sys2Proof.Machine.execTestpDMB1 s
  | .ldDMBK k => Sys2Proof.Machine.execLdDMBK k s
  | .ldDMBAtHL => Sys2Proof.Machine.execLdDMBAtHL s
  | .movADMB => Sys2Proof.Machine.execMovADMB s
  | .movDMBA => Sys2Proof.Machine.execMovDMBA s
  | .stDMBAtHL => Sys2Proof.Machine.execStDMBAtHL s
  | .bss d => Sys2Proof.Machine.execBss d s
  | .bs e => Sys2Proof.Machine.execBs e s
  | .bslBank0 e => Sys2Proof.Machine.execBslBank0 e s
  | .bslBank1 e => Sys2Proof.Machine.execBslBank1 e s
  | .bslBank2 e => Sys2Proof.Machine.execBslBank2 e s
  | .bslBank3 e => Sys2Proof.Machine.execBslBank3 e s
  | .calls n => Sys2Proof.Machine.execCalls n s
  | .callss n => Sys2Proof.Machine.execCallss n s
  | .call a => Sys2Proof.Machine.execCall a s
  | .ret => Sys2Proof.Machine.execRet s
  | .xchAEIR => Sys2Proof.Machine.execXchAEIR s
  | .eiclr r => Sys2Proof.Machine.execEiclr r s
  | .ei => Sys2Proof.Machine.execEi s
  | .diclr r => Sys2Proof.Machine.execDiclr r s
  | .di => Sys2Proof.Machine.execDi s
  | .clrIL r => Sys2Proof.Machine.execClrIL r s
  | .reti => Sys2Proof.Machine.execReti s
  | .clrSTK13 => Sys2Proof.Machine.execClrSTK13 s
  | .setSTK13 => Sys2Proof.Machine.execSetSTK13 s
  | .movASPW13 => Sys2Proof.Machine.execMovASPW13 s
  | .movSTK13A => Sys2Proof.Machine.execMovSTK13A s
  | .nop => Sys2Proof.Machine.execNop s

end Sys2Proof.Machine
end

