-- ==== Sys2Proof/WellFormed.lean ====
section
/-! DEFINITION. Which instructions have words of their own on a device: the series offers the row, the row is one a decoder
reads, its encoding parameter is set, and no named row takes its bytes (30_encoding.md R87 to R90, R92). -/

namespace Sys2Proof

/-- The availability columns of 7.2: the rows that not every series offers (R90). -/
def Instr.onSeries (s : Series) : Instr → Bool
  | .clrGF | .setGF | .testpGF => s == .s47
  | .inPAHigh _ | .inPAtHLHigh _ => s != .s47
  | .bslBank0 _ | .bslBank1 _ | .bslBank2 _ | .bslBank3 _ => s != .s47
  | .clrDMB | .setDMB | .testDMB | .testpDMB => s == .s470
  | .clrDMB0 | .setDMB0 | .testDMB0 | .testpDMB0 => s == .s470A
  | .clrDMB1 | .setDMB1 | .testDMB1 | .testpDMB1 => s == .s470A
  | .ldDMBK _ | .ldDMBAtHL | .movADMB | .movDMBA | .stDMBAtHL => s == .s470A
  | .clrSTK13 | .setSTK13 | .movASPW13 | .movSTK13A => s == .s470A
  | _ => true

/-- R92: the second spellings of other rows' words, which a decoder skips. -/
def Instr.isSpelling : Instr → Bool
  | .ldHLJK _ _ | .callss _ | .ei | .di => true
  | _ => false

/-- R88: the rows whose encoding is a parameter have words only when the parameter is set. -/
def Instr.parameterSet (d : Device) : Instr → Bool
  | .clrSTK13 | .setSTK13 => d.stk13Op3.isSome
  | .ldDMBK _ => d.ldDmbImmEnc == .suggested
  | _ => true

/-- The second byte of the generic rows of group 3AH (30_encoding.md R85, R86). -/
def Instr.ioByte : Instr → Option Byte
  | .inPA p => some (0x2#4 ++ p)
  | .inPAHigh p => some (0x0#4 ++ p)
  | .inPAtHL p => some (0x6#4 ++ p)
  | .inPAtHLHigh p => some (0x4#4 ++ p)
  | .outAP p => some (0b10#2 ++ p.extractLsb' 4 1 ++ 0#1 ++ p.extractLsb' 0 4)
  | .outAtHLP p => some (0b11#2 ++ p.extractLsb' 4 1 ++ 0#1 ++ p.extractLsb' 0 4)
  | _ => none

/-- R89: the bytes of a generic row that a named row takes on the device's series: bit 3 of port 09H on TLCS-470/470A, and on
TLCS-470A the two bytes of `MOV STK13, A` and `MOV A, SPW13` after 3AH. -/
def Instr.takenByNamed (d : Device) (i : Instr) : Bool :=
  match i with
  | .setPB p b | .clrPB p b | .testPB p b | .testpPB p b => d.series != .s47 && p == 9 && b == 3
  | _ => d.series == .s470A && (i.ioByte == some 0x04 || i.ioByte == some d.movASpw13Enc)

/-- The instruction has words of its own on device `d`: `encode` writes them and `decode` reads them back. -/
def Instr.wellFormed (d : Device) (i : Instr) : Bool :=
  i.onSeries d.series && !i.isSpelling && i.parameterSet d && !i.takenByNamed d

end Sys2Proof
end

