-- ==== Sys2Proof/Decode.lean ====
section
/-! DEFINITION. The decoder (30_encoding.md R81, R84 to R90), total on any bytes; the encoder from the same tables; the assembler
forms of R92; and the host's reading of a table word (log 20, log 21). -/

namespace Sys2Proof

/-- The high nibble of a byte. -/
def hiNib (b : Byte) : Nibble := b.extractLsb' 4 4

/-- The low nibble of a byte. -/
def loNib (b : Byte) : Nibble := b.extractLsb' 0 4

/-! ### Length -/

/-- R88: the prefix bytes of TLCS-470 and TLCS-470A. -/
def isLead3 (s : Series) (b0 : Byte) : Bool :=
  s != .s47 && (b0 == 0x01 || b0 == 0x02 || b0 == 0x03 || b0 == 0x1C)

/-- R81: the length of an instruction is decided by its first byte (and the series). -/
def instrLength (s : Series) (b0 : Byte) : Nat :=
  if isLead3 s b0 then 3
  else if (0x20#8 ≤ b0 && b0 ≤ 0x29#8) || (0x2C#8 ≤ b0 && b0 ≤ 0x2F#8) || b0 == 0x36 ||
      (0x38#8 ≤ b0 && b0 ≤ 0x3F#8) || (0x60#8 ≤ b0 && b0 ≤ 0x6F#8) then 2
  else 1

/-! ### The opcode map -/

/-- First bytes 00H to 0FH, by low nibble (R84). On TLCS-470/470A 01H to 03H are prefixes and do not come here. -/
def decodeRow0 : Nibble → Option Instr
  | 0x0#4 => some .nop
  | 0x1#4 => some .testpGF
  | 0x2#4 => some .clrGF
  | 0x3#4 => some .setGF
  | 0x4#4 => some .testpCF
  | 0x5#4 => some .rolcA
  | 0x6#4 => some .testCF
  | 0x7#4 => some .rorcA
  | 0x8#4 => some .incA
  | 0x9#4 => some .decA
  | 0xA#4 => some .incAtHL
  | 0xB#4 => some .decAtHL
  | 0xC#4 => some .ldAAtHL
  | 0xD#4 => some .xchAAtHL
  | 0xE#4 => some .testpZF
  | _ => some .stAAtHL

/-- First bytes 10H to 1FH (R84); 1CH is unassigned on TLCS-47 (R87 (a)) and a prefix elsewhere. -/
def decodeRow1 : Nibble → Option Instr
  | 0x0#4 => some .movHA
  | 0x1#4 => some .movLA
  | 0x2#4 => some .outbAtHL
  | 0x3#4 => some .xchAEIR
  | 0x4#4 => some .subrcAAtHL
  | 0x5#4 => some .addcAAtHL
  | 0x6#4 => some .cmprAAtHL
  | 0x7#4 => some .addAAtHL
  | 0x8#4 => some .incL
  | 0x9#4 => some .decL
  | 0xA#4 => some .stAAtHLInc
  | 0xB#4 => some .stAAtHLDec
  | 0xC#4 => none
  | 0xD#4 => some .orAAtHL
  | 0xE#4 => some .andAAtHL
  | _ => some .xorAAtHL

/-- First bytes 20H to 2FH with second byte `b1` (R84, R86). -/
def decodeRow2 (n : Nibble) (b1 : Byte) : Option Instr :=
  match n with
  | 0x8#4 => some (.ldHLX b1)
  | 0x9#4 => some (.xchHLX b1)
  | 0xA#4 => some .ret
  | 0xB#4 => some .reti
  | 0xC#4 => some (.outKP (hiNib b1) (loNib b1))
  | 0xD#4 => some (.stKY (hiNib b1) (loNib b1))
  | 0xE#4 => some (.cmprYK (loNib b1) (hiNib b1))
  | 0xF#4 => some (.addYK (loNib b1) (hiNib b1))
  | _ => some (.call (n.extractLsb' 0 3 ++ b1))

/-- Second bytes after 36H (R85, R87 (c)). -/
def decodeGroup36 (b1 : Byte) : Option Instr :=
  let r := b1.extractLsb' 0 6
  match b1.extractLsb' 6 2 with
  | 0b01#2 => some (.eiclr r)
  | 0b10#2 => some (.diclr r)
  | 0b11#2 => some (.clrIL r)
  | _ => none

/-- Second bytes after 38H (R85, R87 (d); C4). -/
def decodeGroup38 (b1 : Byte) : Option Instr :=
  let k := loNib b1
  match hiNib b1 with
  | 0x0#4 => some (.addAK k)
  | 0x1#4 => some (.subrAK k)
  | 0x2#4 => some (.orAK k)
  | 0x3#4 => some (.andAK k)
  | 0x4#4 => some (.addAtHLK k)
  | 0x5#4 => some (.subrAtHLK k)
  | 0x6#4 => some (.orAtHLK k)
  | 0x7#4 => some (.andAtHLK k)
  | 0x8#4 => some (.addLK k)
  | 0x9#4 => some (.cmprLK k)
  | 0xC#4 => some (.addHK k)
  | 0xD#4 => some (.cmprHK k)
  | _ => none

/-- Second bytes after 39H (R85). -/
def decodeGroup39 (b1 : Byte) : Option Instr :=
  let b := b1.extractLsb' 4 2
  let y := loNib b1
  match b1.extractLsb' 6 2 with
  | 0b00#2 => some (.setYB y b)
  | 0b01#2 => some (.clrYB y b)
  | 0b10#2 => some (.testYB y b)
  | _ => some (.testpYB y b)

/-- Second bytes after 3AH: on TLCS-470A the two named rows first (R89 (b), (c)), then the generic rows by high nibble; bit 4 set
is unassigned, and the high input ports do not exist on TLCS-47 (R85, R86, R87 (e), (f)). -/
def decodeGroup3A (d : Device) (b1 : Byte) : Option Instr :=
  let p := loNib b1
  if d.series == .s470A && b1 == 0x04 then some .movSTK13A
  else if d.series == .s470A && b1 == d.movASpw13Enc then some .movASPW13
  else match hiNib b1 with
    | 0x2#4 => some (.inPA p)
    | 0x0#4 => if d.series == .s47 then none else some (.inPAHigh p)
    | 0x6#4 => some (.inPAtHL p)
    | 0x4#4 => if d.series == .s47 then none else some (.inPAtHLHigh p)
    | 0x8#4 => some (.outAP (0#1 ++ p))
    | 0xA#4 => some (.outAP (1#1 ++ p))
    | 0xC#4 => some (.outAtHLP (0#1 ++ p))
    | 0xE#4 => some (.outAtHLP (1#1 ++ p))
    | _ => none

/-- Second bytes after 3BH: the port rows, and the four bytes that are DMB on TLCS-470 and DMB0 on TLCS-470A (R85, R89 (a)). -/
def decodeGroup3B (s : Series) (b1 : Byte) : Option Instr :=
  let b := b1.extractLsb' 4 2
  let p := loNib b1
  let named : Bool := p == 9 && b == 3
  match b1.extractLsb' 6 2, named, s with
  | 0b00#2, true, .s470 => some .setDMB
  | 0b01#2, true, .s470 => some .clrDMB
  | 0b10#2, true, .s470 => some .testDMB
  | 0b11#2, true, .s470 => some .testpDMB
  | 0b00#2, true, .s470A => some .setDMB0
  | 0b01#2, true, .s470A => some .clrDMB0
  | 0b10#2, true, .s470A => some .testDMB0
  | 0b11#2, true, .s470A => some .testpDMB0
  | 0b00#2, _, _ => some (.setPB p b)
  | 0b01#2, _, _ => some (.clrPB p b)
  | 0b10#2, _, _ => some (.testPB p b)
  | _, _, _ => some (.testpPB p b)

/-- First bytes 30H to 3FH (R84). -/
def decodeRow3 (d : Device) (n : Nibble) (b1 : Byte) : Option Instr :=
  match n with
  | 0x0#4 => some .xchAH
  | 0x1#4 => some .xchAL
  | 0x2#4 => some .ldhAAtDCInc
  | 0x3#4 => some .ldlAAtDC
  | 0x4#4 => some .setAtL
  | 0x5#4 => some .clrAtL
  | 0x6#4 => decodeGroup36 b1
  | 0x7#4 => some .testAtL
  | 0x8#4 => decodeGroup38 b1
  | 0x9#4 => decodeGroup39 b1
  | 0xA#4 => decodeGroup3A d b1
  | 0xB#4 => decodeGroup3B d.series b1
  | 0xC#4 => some (.ldAX b1)
  | 0xD#4 => some (.xchAX b1)
  | 0xE#4 => some (.cmprAX b1)
  | _ => some (.stAX b1)

/-- First bytes 50H to 5FH (R82 format F1B, R84). -/
def decodeRow5 (n : Nibble) : Option Instr :=
  let b := n.extractLsb' 0 2
  match n.extractLsb' 2 2 with
  | 0b00#2 => some (.setAtHLB b)
  | 0b01#2 => some (.clrAtHLB b)
  | 0b10#2 => some (.testAtHLB b)
  | _ => some (.testAB b)

/-- R88: the body `6e ee` after a prefix byte, on TLCS-470 and TLCS-470A. -/
def decodeBsl (b0 : Byte) (e : BitVec 12) : Option Instr :=
  match b0 with
  | 0x02#8 => some (.bslBank0 e)
  | 0x03#8 => some (.bslBank1 e)
  | 0x1C#8 => some (.bslBank2 e)
  | 0x01#8 => some (.bslBank3 e)
  | _ => none

/-- R88: the bodies after prefix 03H that only TLCS-470A has. -/
def decodeLead03 (d : Device) (b1 b2 : Byte) : Option Instr :=
  match b1, b2 with
  | 0x3B#8, 0x59#8 => some .clrDMB1
  | 0x3B#8, 0x19#8 => some .setDMB1
  | 0x3B#8, 0x99#8 => some .testDMB1
  | 0x3B#8, 0xD9#8 => some .testpDMB1
  | 0x3A#8, 0xE9#8 => some .ldDMBAtHL
  | 0x3A#8, 0xA9#8 => some .movADMB
  | 0x3A#8, 0x29#8 => some .movDMBA
  | 0x3A#8, 0x69#8 => some .stDMBAtHL
  | 0x3A#8, _ => if d.stk13Op3 == some b2 then some .setSTK13 else none
  | 0x2C#8, _ =>
    if d.ldDmbImmEnc == .suggested && b2.extractLsb' 6 2 == 0 && loNib b2 == 9 then some (.ldDMBK (b2.extractLsb' 4 2))
    else none
  | _, _ => none

/-- R88: the 3-byte instructions; every other continuation of a prefix byte is unassigned (R87 (b)). -/
def decodeLead3 (d : Device) (b0 b1 b2 : Byte) : Option Instr :=
  if hiNib b1 == 6 then decodeBsl b0 (loNib b1 ++ b2)
  else if d.series == .s470A && b0 == 0x03 then decodeLead03 d b1 b2
  else if d.series == .s470A && b0 == 0x02 && b1 == 0x3A && d.stk13Op3 == some b2 then some .clrSTK13
  else none

/-- The opcode map (R84): the instruction that starts with bytes `b0`, `b1`, `b2`, of which `instrLength` says how many count. -/
def decodeMap (d : Device) (b0 b1 b2 : Byte) : Option Instr :=
  if isLead3 d.series b0 then decodeLead3 d b0 b1 b2
  else
    let n := loNib b0
    match hiNib b0 with
    | 0x0#4 => decodeRow0 n
    | 0x1#4 => decodeRow1 n
    | 0x2#4 => decodeRow2 n b1
    | 0x3#4 => decodeRow3 d n b1
    | 0x4#4 => some (.ldAK n)
    | 0x5#4 => decodeRow5 n
    | 0x6#4 => some (.bs (n ++ b1))
    | 0x7#4 => some (.calls n)
    | 0xC#4 => some (.ldHK n)
    | 0xD#4 => some (.cmprAK n)
    | 0xE#4 => some (.ldLK n)
    | 0xF#4 => some (.stKAtHLInc n)
    | _ => some (.bss (b0.extractLsb' 0 6))

/-- What the decoder answers: an instruction and the bytes after it, or a rejection by name. -/
inductive Decoded where
  /-- an instruction, and the bytes that follow it -/
  | instr (i : Instr) (rest : List Byte)
  /-- the bytes end before the instruction does -/
  | truncated (bytes : List Byte)
  /-- the bytes are an unassigned encoding of the series (R87) -/
  | illegal (bytes : List Byte)
deriving DecidableEq, Repr

/-- The decoder of R90: a function of the device and the bytes at an address, first byte first (20_memory.md R52). -/
def decode (d : Device) : List Byte → Decoded
  | [] => .truncated []
  | b0 :: rest =>
    let n := instrLength d.series b0
    if rest.length + 1 < n then .truncated (b0 :: rest)
    else match decodeMap d b0 (rest.getD 0 0) (rest.getD 1 0) with
      | some i => .instr i (rest.drop (n - 1))
      | none => .illegal ((b0 :: rest).take n)

/-! ### The encoder -/

/-- The words of an instruction, first byte first, from the object-code column (30_encoding.md R82, R85, R86, R88); `none` where the
device's parameter gives the instruction no encoding. -/
def encode (d : Device) : Instr → Option (List Byte)
  | .ldAAtHL => some [0x0C]
  | .ldAX x => some [0x3C, x]
  | .ldHLX x => some [0x28, x]
  | .ldlAAtDC => some [0x33]
  | .ldhAAtDCInc => some [0x32]
  | .stAAtHL => some [0x0F]
  | .stAAtHLInc => some [0x1A]
  | .stAAtHLDec => some [0x1B]
  | .stAX x => some [0x3F, x]
  | .stKAtHLInc k => some [0xF#4 ++ k]
  | .stKY k y => some [0x2D, k ++ y]
  | .ldAK k => some [0x4#4 ++ k]
  | .ldHK k => some [0xC#4 ++ k]
  | .ldLK k => some [0xE#4 ++ k]
  | .ldHLJK j k => some [0xC#4 ++ j, 0xE#4 ++ k]
  | .movHA => some [0x10]
  | .movLA => some [0x11]
  | .xchAAtHL => some [0x0D]
  | .xchAX x => some [0x3D, x]
  | .xchHLX x => some [0x29, x]
  | .xchAH => some [0x30]
  | .xchAL => some [0x31]
  | .inPA p => some [0x3A, 0x2#4 ++ p]
  | .inPAHigh p => some [0x3A, 0x0#4 ++ p]
  | .inPAtHL p => some [0x3A, 0x6#4 ++ p]
  | .inPAtHLHigh p => some [0x3A, 0x4#4 ++ p]
  | .outAP p => some [0x3A, 0b10#2 ++ p.extractLsb' 4 1 ++ 0#1 ++ p.extractLsb' 0 4]
  | .outAtHLP p => some [0x3A, 0b11#2 ++ p.extractLsb' 4 1 ++ 0#1 ++ p.extractLsb' 0 4]
  | .outKP k p => some [0x2C, k ++ p]
  | .outbAtHL => some [0x12]
  | .cmprAAtHL => some [0x16]
  | .cmprAX x => some [0x3E, x]
  | .cmprYK y k => some [0x2E, k ++ y]
  | .cmprAK k => some [0xD#4 ++ k]
  | .cmprHK k => some [0x38, 0xD#4 ++ k]
  | .cmprLK k => some [0x38, 0x9#4 ++ k]
  | .addAAtHL => some [0x17]
  | .addcAAtHL => some [0x15]
  | .addAtHLK k => some [0x38, 0x4#4 ++ k]
  | .addYK y k => some [0x2F, k ++ y]
  | .addAK k => some [0x38, 0x0#4 ++ k]
  | .addHK k => some [0x38, 0xC#4 ++ k]
  | .addLK k => some [0x38, 0x8#4 ++ k]
  | .subrcAAtHL => some [0x14]
  | .subrAtHLK k => some [0x38, 0x5#4 ++ k]
  | .subrAK k => some [0x38, 0x1#4 ++ k]
  | .incAtHL => some [0x0A]
  | .decAtHL => some [0x0B]
  | .incA => some [0x08]
  | .decA => some [0x09]
  | .incL => some [0x18]
  | .decL => some [0x19]
  | .andAAtHL => some [0x1E]
  | .andAtHLK k => some [0x38, 0x7#4 ++ k]
  | .andAK k => some [0x38, 0x3#4 ++ k]
  | .orAAtHL => some [0x1D]
  | .orAtHLK k => some [0x38, 0x6#4 ++ k]
  | .orAK k => some [0x38, 0x2#4 ++ k]
  | .xorAAtHL => some [0x1F]
  | .rolcA => some [0x05]
  | .rorcA => some [0x07]
  | .clrAtHLB b => some [0x5#4 ++ 0b01#2 ++ b]
  | .clrYB y b => some [0x39, 0b01#2 ++ b ++ y]
  | .clrPB p b => some [0x3B, 0b01#2 ++ b ++ p]
  | .clrAtL => some [0x35]
  | .setAtHLB b => some [0x5#4 ++ 0b00#2 ++ b]
  | .setYB y b => some [0x39, 0b00#2 ++ b ++ y]
  | .setPB p b => some [0x3B, 0b00#2 ++ b ++ p]
  | .setAtL => some [0x34]
  | .testAtHLB b => some [0x5#4 ++ 0b10#2 ++ b]
  | .testYB y b => some [0x39, 0b10#2 ++ b ++ y]
  | .testpYB y b => some [0x39, 0b11#2 ++ b ++ y]
  | .testPB p b => some [0x3B, 0b10#2 ++ b ++ p]
  | .testpPB p b => some [0x3B, 0b11#2 ++ b ++ p]
  | .testAtL => some [0x37]
  | .testAB b => some [0x5#4 ++ 0b11#2 ++ b]
  | .testCF => some [0x06]
  | .testpCF => some [0x04]
  | .testpZF => some [0x0E]
  | .clrGF => some [0x02]
  | .setGF => some [0x03]
  | .testpGF => some [0x01]
  | .clrDMB => some [0x3B, 0x79]
  | .setDMB => some [0x3B, 0x39]
  | .testDMB => some [0x3B, 0xB9]
  | .testpDMB => some [0x3B, 0xF9]
  | .clrDMB0 => some [0x3B, 0x79]
  | .setDMB0 => some [0x3B, 0x39]
  | .testDMB0 => some [0x3B, 0xB9]
  | .testpDMB0 => some [0x3B, 0xF9]
  | .clrDMB1 => some [0x03, 0x3B, 0x59]
  | .setDMB1 => some [0x03, 0x3B, 0x19]
  | .testDMB1 => some [0x03, 0x3B, 0x99]
  | .testpDMB1 => some [0x03, 0x3B, 0xD9]
  | .ldDMBK k =>
    match d.ldDmbImmEnc with
    | .suggested => some [0x03, 0x2C, 0b00#2 ++ k ++ 0x9#4]
    | .absent => none
  | .ldDMBAtHL => some [0x03, 0x3A, 0xE9]
  | .movADMB => some [0x03, 0x3A, 0xA9]
  | .movDMBA => some [0x03, 0x3A, 0x29]
  | .stDMBAtHL => some [0x03, 0x3A, 0x69]
  | .bss t => some [0b10#2 ++ t]
  | .bs e => some [0x6#4 ++ e.extractLsb' 8 4, e.extractLsb' 0 8]
  | .bslBank0 e => some [0x02, 0x6#4 ++ e.extractLsb' 8 4, e.extractLsb' 0 8]
  | .bslBank1 e => some [0x03, 0x6#4 ++ e.extractLsb' 8 4, e.extractLsb' 0 8]
  | .bslBank2 e => some [0x1C, 0x6#4 ++ e.extractLsb' 8 4, e.extractLsb' 0 8]
  | .bslBank3 e => some [0x01, 0x6#4 ++ e.extractLsb' 8 4, e.extractLsb' 0 8]
  | .calls n => some [0x7#4 ++ n]
  | .callss n => some [0x7#4 ++ n]
  | .call a => some [0b00100#5 ++ a.extractLsb' 8 3, a.extractLsb' 0 8]
  | .ret => some [0x2A]
  | .xchAEIR => some [0x13]
  | .eiclr r => some [0x36, 0b01#2 ++ r]
  | .ei => some [0x36, 0x7F]
  | .diclr r => some [0x36, 0b10#2 ++ r]
  | .di => some [0x36, 0xBF]
  | .clrIL r => some [0x36, 0b11#2 ++ r]
  | .reti => some [0x2B]
  | .clrSTK13 => d.stk13Op3.map fun t => [0x02, 0x3A, t]
  | .setSTK13 => d.stk13Op3.map fun t => [0x03, 0x3A, t]
  | .movASPW13 => some [0x3A, d.movASpw13Enc]
  | .movSTK13A => some [0x3A, 0x04]
  | .nop => some [0x00]

/-! ### Assembler forms -/

/-- R92: what a second spelling stands for; every other instruction stands for itself. -/
def expansion : Instr → List Instr
  | .ldHLJK j k => [.ldHK j, .ldLK k]
  | .callss n => [.calls n]
  | .ei => [.eiclr 0b111111]
  | .di => [.diclr 0b111111]
  | i => [i]

/-- `BSL` to a full address: bits 13..12 choose the row (R86). -/
def bslTo (a : CodeAddr) : Instr :=
  match a.extractLsb' 12 2 with
  | 0b00#2 => .bslBank0 (a.extractLsb' 0 12)
  | 0b01#2 => .bslBank1 (a.extractLsb' 0 12)
  | 0b10#2 => .bslBank2 (a.extractLsb' 0 12)
  | _ => .bslBank3 (a.extractLsb' 0 12)

/-- `B a` at address `pc` (47_branch.md R263): `BSS` inside the page of the next byte, else `BS` on TLCS-47 or inside the bank of
the next instruction, else `BSL`. -/
def assembleB (s : Series) (pc a : CodeAddr) : Instr :=
  if (pc + 1).toNat % 2 ^ s.pcw / 64 = a.toNat / 64 then .bss (a.extractLsb' 0 6)
  else if s = .s47 ∨ (pc + 2).toNat / 4096 = a.toNat / 4096 then .bs (a.extractLsb' 0 12)
  else bslTo a

/-! ### The host's reading of a table word -/

/-- The bytes of an instruction of `nbits` bits given as one number, as spec/opcode_table.json numbers its bits: bit 0 is the least
significant bit of the LAST byte, so the first byte is the most significant (30_encoding.md R82, INDEX.md; log 21); a missing second or third byte
is zero. -/
def tableBytes (nbits w : Nat) : List Byte :=
  match nbits / 8 with
  | 1 => [BitVec.ofNat 8 w, 0, 0]
  | 2 => [BitVec.ofNat 8 (w / 256), BitVec.ofNat 8 w, 0]
  | _ => [BitVec.ofNat 8 (w / 65536), BitVec.ofNat 8 (w / 256), BitVec.ofNat 8 w]

/-- Whether the bytes start with an instruction of device `d`. -/
def decodes (d : Device) (bs : List Byte) : Bool :=
  match decode d bs with
  | .instr _ _ => true
  | _ => false

/-- The devices on which the word is tried, in order (log 20): the given one; TLCS-470A with the spec's defaults of the encoding
parameters; TLCS-470A with the parameters set so that the rows they give exist; TLCS-47. -/
def tableDevices (d : Device) (bs : List Byte) : List Device :=
  [ d,
    { d with series := .s470A, stk13Op3 := none, ldDmbImmEnc := .absent, movASpw13Enc := 0x84 },
    { d with series := .s470A, stk13Op3 := some (bs.getD 2 0), ldDmbImmEnc := .suggested, movASpw13Enc := 0x84 },
    { d with series := .s47, romSize := min d.romSize 4096 } ]

/-- The first of `tableDevices` on which the word is an instruction, else the given device. -/
def tableDevice (d : Device) (bs : List Byte) : Device :=
  ((tableDevices d bs).find? fun e => decodes e bs).getD d

/-- FIXED NAME: the instruction the decoder reads from a table word, on the device `tableDevice` picks from the one of
`State.reset`. -/
def decodeTableWord (nbits w : Nat) : Option Instr :=
  let bs := tableBytes nbits w
  match decode (tableDevice Device.default bs) bs with
  | .instr i _ => some i
  | _ => none

end Sys2Proof
end

