-- ==== Sys2Proof/Machine/Fetch.lean ====
section
/-! DEFINITION. Instruction fetch (20_memory.md R58): the addresses of the instruction at pc, their check, and their bytes. -/

namespace Sys2Proof.Machine

/-- The length of the instruction at pc, decided by its first byte (30_encoding.md R81). -/
def State.fetchLength (s : State) : Nat := instrLength s.dev.series (s.romByte (s.npc 0))

/-- The addresses of the instruction's bytes, each modulo `2^PCW`. -/
def State.fetchAddrs (s : State) : List CodeAddr := (List.range s.fetchLength).map s.npc

/-- The check of the fetch of one byte: `FetchOutsideRom`. -/
def State.fetchFault (s : State) (a : CodeAddr) : Option Fault :=
  if a.toNat < s.dev.romSize then none else some (.fetchOutsideRom a)

/-- The checks of the fetch, first byte first (R302 (2)). -/
def State.fetchFaults (s : State) : List (Option Fault) := s.fetchAddrs.map s.fetchFault

/-- The bytes of the instruction at pc. -/
def State.fetchBytes (s : State) : List Byte := s.fetchAddrs.map s.romByte

/-- Program memory with `bs` at `a` and the addresses after it, each modulo `2^PCW`: the loading of a program from outside
(log 3), not an operation of the machine. -/
def State.loadRom (s : State) (a : CodeAddr) : List Byte → State
  | [] => s
  | b :: bs => State.loadRom { s with rom := Memory.write s.rom a.toNat b } (wrapPc s.dev.series (a + 1)) bs

end Sys2Proof.Machine
end

