-- ==== Sys2Proof/Machine/Run.lean ====
section
/-! DEFINITION. One step, in the order of 60_exceptions.md R302: the environment, the interrupt decision, fetch, decode, execution;
and the placing of a table word where the next step fetches (log 20). -/

namespace Sys2Proof.Machine

/-- Fetch, decode and execute the instruction at pc (R302 (2) to (5)). -/
def State.fetchExec (s : State) : Result :=
  match firstFault s.fetchFaults with
  | some f => .fault f
  | none =>
    match decode s.dev s.fetchBytes with
    | .instr i _ => exec i s
    | .truncated bs => .fault (.illegalInstruction s.pc bs)
    | .illegal bs => .fault (.illegalInstruction s.pc bs)

/-- The request accepted at the boundary before the next instruction, if any (R302 (1), R304): decided after the environment's
latch updates, unless the boundary's acceptance is delayed. -/
def State.accepted (s : State) : Option (Fin 6) := if s.holding then none else s.boundary.acceptable

/-- One step: an interrupt entry (which is not an instruction, R304), or one instruction (log 25). -/
def State.stepOnce (s : State) : Result :=
  match s.accepted with
  | some i => s.boundary.takeInterrupt i
  | none => s.boundary.fetchExec

/-- A table word placed where the next step fetches: the device on which it is an instruction, program memory large enough to hold
it, its bytes at pc, and, where interrupts are enabled, one boundary at which none is accepted. -/
def State.placeWord (s : State) (nbits w : Nat) : State :=
  let bs := tableBytes nbits w
  let d := tableDevice s.dev bs
  let pc := wrapPc d.series s.pc
  let fits : Bool := decide (pc.toNat + 3 ≤ d.romSize)
  let s' : State :=
    { s with
      dev := if fits then d else { d with romSize := 2 ^ d.series.pcw }
      pc := pc
      schedule := if s.eif then ⟨0, true⟩ :: s.schedule else s.schedule }
  s'.loadRom pc bs

end Sys2Proof.Machine
end

