-- ==== Sys2Proof/Machine/Step.lean ====
section
/-! DEFINITION. The step function, and the placing of a table word for the host. -/

namespace Sys2Proof.Machine

/-- FIXED NAME: one step of the machine (60_exceptions.md R302). -/
def step (s : State) : Host.Outcome State Fault Refusal := s.stepOnce

/-- FIXED NAME: the state in which the next step fetches and runs the table word `w` of `nbits` bits (log 20). -/
def State.withFetchWord (s : State) (nbits w : Nat) : State := s.placeWord nbits w

end Sys2Proof.Machine
end

