-- ==== Sys2Proof/Machine/Listing.lean ====
section
/-! DEFINITION. What the tables of the spec record about each row: the assembler form (30_encoding.md R91), the length in bytes and
the cycle count (70_reset_and_hazards.md R346), and whether the row counts as a basic machine instruction of Table 1 (00_scope.md R2: second
spellings do not count, the rows of one mnemonic count once). No rule of the machine depends on them (R345; log 26). -/

namespace Sys2Proof

/-- One row of the tables. -/
structure RowInfo where
  form : String
  bytes : Nat
  cycles : Nat
  counted : Bool
deriving DecidableEq, Repr

/-- The row of an instruction. -/
def Instr.info : Instr → RowInfo
  | .ldAAtHL => ⟨"LD A, @HL", 1, 1, true⟩
  | .ldAX _ => ⟨"LD A, x", 2, 2, true⟩
  | .ldHLX _ => ⟨"LD HL, x", 2, 2, true⟩
  | .ldlAAtDC => ⟨"LDL A, @DC", 1, 2, true⟩
  | .ldhAAtDCInc => ⟨"LDH A, @DC+", 1, 2, true⟩
  | .stAAtHL => ⟨"ST A, @HL", 1, 1, true⟩
  | .stAAtHLInc => ⟨"ST A, @HL+", 1, 1, true⟩
  | .stAAtHLDec => ⟨"ST A, @HL-", 1, 1, true⟩
  | .stAX _ => ⟨"ST A, x", 2, 2, true⟩
  | .stKAtHLInc _ => ⟨"ST #k, @HL+", 1, 1, true⟩
  | .stKY _ _ => ⟨"ST #k, y", 2, 2, true⟩
  | .ldAK _ => ⟨"LD A, #k", 1, 1, true⟩
  | .ldHK _ => ⟨"LD H, #k", 1, 1, true⟩
  | .ldLK _ => ⟨"LD L, #k", 1, 1, true⟩
  | .ldHLJK _ _ => ⟨"LD HL, #jk", 2, 2, false⟩
  | .movHA => ⟨"MOV H, A", 1, 1, true⟩
  | .movLA => ⟨"MOV L, A", 1, 1, true⟩
  | .xchAAtHL => ⟨"XCH A, @HL", 1, 1, true⟩
  | .xchAX _ => ⟨"XCH A, x", 2, 2, true⟩
  | .xchHLX _ => ⟨"XCH HL, x", 2, 2, true⟩
  | .xchAH => ⟨"XCH A, H", 1, 2, true⟩
  | .xchAL => ⟨"XCH A, L", 1, 2, true⟩
  | .inPA _ => ⟨"IN %p, A", 2, 2, true⟩
  | .inPAHigh _ => ⟨"IN %p, A", 2, 2, false⟩
  | .inPAtHL _ => ⟨"IN %p, @HL", 2, 2, true⟩
  | .inPAtHLHigh _ => ⟨"IN %p, @HL", 2, 2, false⟩
  | .outAP _ => ⟨"OUT A, %p", 2, 2, true⟩
  | .outAtHLP _ => ⟨"OUT @HL, %p", 2, 2, true⟩
  | .outKP _ _ => ⟨"OUT #k, %p", 2, 2, true⟩
  | .outbAtHL => ⟨"OUTB @HL", 1, 2, true⟩
  | .cmprAAtHL => ⟨"CMPR A, @HL", 1, 1, true⟩
  | .cmprAX _ => ⟨"CMPR A, x", 2, 2, true⟩
  | .cmprYK _ _ => ⟨"CMPR y, #k", 2, 2, true⟩
  | .cmprAK _ => ⟨"CMPR A, #k", 1, 1, true⟩
  | .cmprHK _ => ⟨"CMPR H, #k", 2, 2, true⟩
  | .cmprLK _ => ⟨"CMPR L, #k", 2, 2, true⟩
  | .addAAtHL => ⟨"ADD A, @HL", 1, 1, true⟩
  | .addcAAtHL => ⟨"ADDC A, @HL", 1, 1, true⟩
  | .addAtHLK _ => ⟨"ADD @HL, #k", 2, 2, true⟩
  | .addYK _ _ => ⟨"ADD y, #k", 2, 2, true⟩
  | .addAK _ => ⟨"ADD A, #k", 2, 2, true⟩
  | .addHK _ => ⟨"ADD H, #k", 2, 2, true⟩
  | .addLK _ => ⟨"ADD L, #k", 2, 2, true⟩
  | .subrcAAtHL => ⟨"SUBRC A, @HL", 1, 1, true⟩
  | .subrAtHLK _ => ⟨"SUBR @HL, #k", 2, 2, true⟩
  | .subrAK _ => ⟨"SUBR A, #k", 2, 2, true⟩
  | .incAtHL => ⟨"INC @HL", 1, 1, true⟩
  | .decAtHL => ⟨"DEC @HL", 1, 1, true⟩
  | .incA => ⟨"INC A", 1, 1, true⟩
  | .decA => ⟨"DEC A", 1, 1, true⟩
  | .incL => ⟨"INC L", 1, 1, true⟩
  | .decL => ⟨"DEC L", 1, 1, true⟩
  | .andAAtHL => ⟨"AND A, @HL", 1, 1, true⟩
  | .andAtHLK _ => ⟨"AND @HL, #k", 2, 2, true⟩
  | .andAK _ => ⟨"AND A, #k", 2, 2, true⟩
  | .orAAtHL => ⟨"OR A, @HL", 1, 1, true⟩
  | .orAtHLK _ => ⟨"OR @HL, #k", 2, 2, true⟩
  | .orAK _ => ⟨"OR A, #k", 2, 2, true⟩
  | .xorAAtHL => ⟨"XOR A, @HL", 1, 1, true⟩
  | .rolcA => ⟨"ROLC A", 1, 1, true⟩
  | .rorcA => ⟨"RORC A", 1, 1, true⟩
  | .clrAtHLB _ => ⟨"CLR @HL, b", 1, 1, true⟩
  | .clrYB _ _ => ⟨"CLR y, b", 2, 2, true⟩
  | .clrPB _ _ => ⟨"CLR %p, b", 2, 2, true⟩
  | .clrAtL => ⟨"CLR @L", 1, 2, true⟩
  | .setAtHLB _ => ⟨"SET @HL, b", 1, 1, true⟩
  | .setYB _ _ => ⟨"SET y, b", 2, 2, true⟩
  | .setPB _ _ => ⟨"SET %p, b", 2, 2, true⟩
  | .setAtL => ⟨"SET @L", 1, 2, true⟩
  | .testAtHLB _ => ⟨"TEST @HL, b", 1, 1, true⟩
  | .testYB _ _ => ⟨"TEST y, b", 2, 2, true⟩
  | .testpYB _ _ => ⟨"TESTP y, b", 2, 2, true⟩
  | .testPB _ _ => ⟨"TEST %p, b", 2, 2, true⟩
  | .testpPB _ _ => ⟨"TESTP %p, b", 2, 2, true⟩
  | .testAtL => ⟨"TEST @L", 1, 2, true⟩
  | .testAB _ => ⟨"TEST A, b", 1, 1, true⟩
  | .testCF => ⟨"TEST CF", 1, 1, true⟩
  | .testpCF => ⟨"TESTP CF", 1, 1, true⟩
  | .testpZF => ⟨"TESTP ZF", 1, 1, true⟩
  | .clrGF => ⟨"CLR GF", 1, 1, true⟩
  | .setGF => ⟨"SET GF", 1, 1, true⟩
  | .testpGF => ⟨"TESTP GF", 1, 1, true⟩
  | .clrDMB => ⟨"CLR DMB", 2, 2, true⟩
  | .setDMB => ⟨"SET DMB", 2, 2, true⟩
  | .testDMB => ⟨"TEST DMB", 2, 2, true⟩
  | .testpDMB => ⟨"TESTP DMB", 2, 2, true⟩
  | .clrDMB0 => ⟨"CLR DMB0", 2, 2, true⟩
  | .setDMB0 => ⟨"SET DMB0", 2, 2, true⟩
  | .testDMB0 => ⟨"TEST DMB0", 2, 2, true⟩
  | .testpDMB0 => ⟨"TESTP DMB0", 2, 2, true⟩
  | .clrDMB1 => ⟨"CLR DMB1", 3, 3, true⟩
  | .setDMB1 => ⟨"SET DMB1", 3, 3, true⟩
  | .testDMB1 => ⟨"TEST DMB1", 3, 3, true⟩
  | .testpDMB1 => ⟨"TESTP DMB1", 3, 3, true⟩
  | .ldDMBK _ => ⟨"LD DMB, #k", 3, 3, true⟩
  | .ldDMBAtHL => ⟨"LD DMB, @HL", 3, 3, true⟩
  | .movADMB => ⟨"MOV A, DMB", 3, 3, true⟩
  | .movDMBA => ⟨"MOV DMB, A", 3, 3, true⟩
  | .stDMBAtHL => ⟨"ST DMB, @HL", 3, 3, true⟩
  | .bss _ => ⟨"BSS a", 1, 1, true⟩
  | .bs _ => ⟨"BS a", 2, 2, true⟩
  | .bslBank0 _ => ⟨"BSL a", 3, 3, true⟩
  | .bslBank1 _ => ⟨"BSL a", 3, 3, false⟩
  | .bslBank2 _ => ⟨"BSL a", 3, 3, false⟩
  | .bslBank3 _ => ⟨"BSL a", 3, 3, false⟩
  | .calls _ => ⟨"CALLS a", 1, 2, true⟩
  | .callss _ => ⟨"CALLSS n", 1, 2, false⟩
  | .call _ => ⟨"CALL a", 2, 2, true⟩
  | .ret => ⟨"RET", 1, 2, true⟩
  | .xchAEIR => ⟨"XCH A, EIR", 1, 1, true⟩
  | .eiclr _ => ⟨"EICLR IL, r", 2, 2, true⟩
  | .ei => ⟨"EI", 2, 2, false⟩
  | .diclr _ => ⟨"DICLR IL, r", 2, 2, true⟩
  | .di => ⟨"DI", 2, 2, false⟩
  | .clrIL _ => ⟨"CLR IL, r", 2, 2, true⟩
  | .reti => ⟨"RETI", 1, 2, true⟩
  | .clrSTK13 => ⟨"CLR STK13", 3, 3, true⟩
  | .setSTK13 => ⟨"SET STK13", 3, 3, true⟩
  | .movASPW13 => ⟨"MOV A, SPW13", 2, 2, true⟩
  | .movSTK13A => ⟨"MOV STK13, A", 2, 2, true⟩
  | .nop => ⟨"NOP", 1, 1, true⟩

/-- The length in bytes (30_encoding.md R80). -/
def Instr.length (i : Instr) : Nat := i.info.bytes

/-- The cycle count (R346). -/
def Instr.cycles (i : Instr) : Nat := i.info.cycles

/-- One instruction for each row of spec/opcode_table.json, every operand 0. -/
def allRows : List Instr :=
  [.ldAAtHL, .ldAX 0, .ldHLX 0, .ldlAAtDC, .ldhAAtDCInc, .stAAtHL, .stAAtHLInc, .stAAtHLDec, .stAX 0, .stKAtHLInc 0,
   .stKY 0 0, .ldAK 0, .ldHK 0, .ldLK 0, .ldHLJK 0 0, .movHA, .movLA, .xchAAtHL, .xchAX 0, .xchHLX 0,
   .xchAH, .xchAL, .inPA 0, .inPAHigh 0, .inPAtHL 0, .inPAtHLHigh 0, .outAP 0, .outAtHLP 0, .outKP 0 0, .outbAtHL] ++
  [.cmprAAtHL, .cmprAX 0, .cmprYK 0 0, .cmprAK 0, .cmprHK 0, .cmprLK 0, .addAAtHL, .addcAAtHL, .addAtHLK 0, .addYK 0 0,
   .addAK 0, .addHK 0, .addLK 0, .subrcAAtHL, .subrAtHLK 0, .subrAK 0, .incAtHL, .decAtHL, .incA, .decA,
   .incL, .decL, .andAAtHL, .andAtHLK 0, .andAK 0, .orAAtHL, .orAtHLK 0, .orAK 0, .xorAAtHL, .rolcA] ++
  [.rorcA, .clrAtHLB 0, .clrYB 0 0, .clrPB 0 0, .clrAtL, .setAtHLB 0, .setYB 0 0, .setPB 0 0, .setAtL, .testAtHLB 0,
   .testYB 0 0, .testpYB 0 0, .testPB 0 0, .testpPB 0 0, .testAtL, .testAB 0, .testCF, .testpCF, .testpZF, .clrGF,
   .setGF, .testpGF, .clrDMB, .setDMB, .testDMB, .testpDMB, .clrDMB0, .setDMB0, .testDMB0, .testpDMB0] ++
  [.clrDMB1, .setDMB1, .testDMB1, .testpDMB1, .ldDMBK 0, .ldDMBAtHL, .movADMB, .movDMBA, .stDMBAtHL, .bss 0,
   .bs 0, .bslBank0 0, .bslBank1 0, .bslBank2 0, .bslBank3 0, .calls 0, .callss 0, .call 0, .ret, .xchAEIR,
   .eiclr 0, .ei, .diclr 0, .di, .clrIL 0, .reti, .clrSTK13, .setSTK13, .movASPW13, .movSTK13A] ++
  [.nop]

end Sys2Proof
end

