-- ==== Sys2Proof/Safety.lean ====
section
/-! DEFINITION. What counts as a good state and a safe run, and the words the claims use for "nothing else changed". -/

namespace Sys2Proof.Machine

/-- PC is at the width of the series (10_state.md R22: on TLCS-47 bits 12 and 13 read as 0). -/
abbrev State.pcFits (s : State) : Prop := s.pc.toNat < 2 ^ s.dev.series.pcw

/-- DMB is at the width of the series (R27). -/
abbrev State.dmbFits (s : State) : Prop := narrowDmb s.dev.series s.dmb = s.dmb

/-- Data memory lists only words of the banks the series has (20_memory.md R50). -/
abbrev State.ramFits (s : State) : Prop := ∀ c ∈ s.ram, c.1 < 256 * s.dev.series.nbank

/-- The invariant of the machine: both memories are in canonical form, and PC, DMB and data memory are at the widths of the
series. -/
structure State.Inv (s : State) : Prop where
  ramWf : Memory.wf s.ram
  romWf : Memory.wf s.rom
  pcFits : s.pcFits
  dmbFits : s.dmbFits
  ramFits : s.ramFits

/-- `k` steps from `s` reach a state: the run meets no fault and no refusal. -/
def SafeFor (k : Nat) (s : State) : Prop := ∃ t, Host.Core.run Sys2Proof.core k s = .next t

/-- Data memory is unchanged outside the address `ea`, read word by word. -/
def RamSameBut (s t : State) (ea : DataAddr) : Prop := ∀ e : DataAddr, e ≠ ea → t.readRam e = s.readRam e

/-- The instruction goes on with `v` in A, its zero detect in ZF, `f` in SF, pc at the next instruction, and every other field as
before. -/
def LoadsA (i : Instr) (s : State) (v : Nibble) (f : Bool) (len : Nat) : Prop :=
  exec i s = .next { s with a := v, zf := decide (v = 0), sf := f, pc := s.npc len }

/-- The instruction goes on with the flags of comparing `m - n`: CF is 1 when there is no borrow, ZF when they are equal, SF when they
differ; every other field but pc is as before. -/
def Compares (i : Instr) (s : State) (m n : Nibble) (len : Nat) : Prop :=
  exec i s = .next { s with cf := decide (n.toNat ≤ m.toNat), zf := decide (m = n), sf := decide (m ≠ n), pc := s.npc len }

/-- The instruction goes on with `f` in SF, pc at the next instruction, and every other field as before. -/
def SetsSF (i : Instr) (s : State) (f : Bool) (len : Nat) : Prop :=
  exec i s = .next { s with sf := f, pc := s.npc len }

/-- The instruction goes on with `v` in DMB, 1 in SF, pc at the next instruction, and every other field as before. -/
def SetsDmb (i : Instr) (s : State) (v : BitVec 2) (len : Nat) : Prop :=
  exec i s = .next { s with dmb := v, sf := true, pc := s.npc len }

/-- The instruction goes on with `v` in the data-memory word at `ea`, `f` in SF, pc at the next instruction, and every other word and
field as before. -/
def StoresWord (i : Instr) (s : State) (ea : DataAddr) (v : Nibble) (f : Bool) (len : Nat) : Prop :=
  ∃ t, exec i s = .next t ∧ t.readRam ea = v ∧ RamSameBut s t ea ∧ t = { s with ram := t.ram, sf := f, pc := s.npc len }

/-- `StoresWord`, with the stored word's zero detect in ZF. -/
def StoresWordZS (i : Instr) (s : State) (ea : DataAddr) (v : Nibble) (f : Bool) (len : Nat) : Prop :=
  ∃ t, exec i s = .next t ∧ t.readRam ea = v ∧ RamSameBut s t ea ∧
    t = { s with ram := t.ram, zf := decide (v = 0), sf := f, pc := s.npc len }

/-- The instruction goes on with `v` in the latch of port `p`, the output event recorded, 1 in SF, pc at the next instruction, and
every other latch and field as before. -/
def WritesPort (i : Instr) (s : State) (p : BitVec 5) (v : Nibble) (len : Nat) : Prop :=
  ∃ t, exec i s = .next t ∧ t.latchOf p = v ∧ (∀ q, q ≠ p → t.latchOf q = s.latchOf q) ∧
    t = { s with latch := t.latch, events := .portOut p v :: s.events, sf := true, pc := s.npc len }

/-- The instruction goes on as a branch to `target` does: taken if SF is 1, else to the next instruction; SF is 1 after it, and every
other field is as before. -/
def BranchesTo (i : Instr) (s : State) (target : CodeAddr) (len : Nat) : Prop :=
  exec i s = .next { s with pc := if s.sf then target else s.npc len, sf := true }

/-- The instruction goes on as a call to `target` does: location SPW takes the address of the next instruction (and a flag part that
nothing fixes), SPW is decremented, and every other location and field is as before. -/
def CallsTo (i : Instr) (s : State) (target : Nat) (len : Nat) : Prop :=
  ∃ t, exec i s = .next t ∧ t.pc.toNat = target ∧ t.spw.toNat = (s.spw.toNat + 15) % 16 ∧
    (t.stack.get s.spw.toFin).pc.toNat = (s.npc len).toNat % 8192 ∧
    ((t.stk13.get s.spw.toFin) = true ↔ 8192 ≤ (s.npc len).toNat) ∧
    (∀ j : Fin 16, j ≠ s.spw.toFin → t.stack.get j = s.stack.get j ∧ t.stk13.get j = s.stk13.get j) ∧
    t = { s with pc := t.pc, spw := t.spw, stack := t.stack, stk13 := t.stk13, freeCount := t.freeCount }

/-! ### What an instruction may write (10_state.md) -/

/-- R24: the instructions that write CF. -/
def writesCF : Instr → Bool
  | .cmprAAtHL | .cmprAX _ | .cmprYK _ _ | .cmprAK _ | .addcAAtHL | .subrcAAtHL | .rolcA | .rorcA | .testCF | .testpCF
  | .reti => true
  | _ => false

/-- R24: the instructions that leave all three flags unchanged. -/
def keepsFlags : Instr → Bool
  | .nop | .call _ | .calls _ | .callss _ | .ret => true
  | _ => false

/-- R20: the instructions that write A. -/
def writesA : Instr → Bool
  | .ldAAtHL | .ldAX _ | .ldAK _ | .ldlAAtDC | .ldhAAtDCInc | .movHA | .movLA | .xchAAtHL | .xchAX _ | .xchAH | .xchAL
  | .inPA _ | .inPAHigh _ | .addAAtHL | .addAK _ | .addcAAtHL | .subrcAAtHL | .subrAK _ | .incA | .decA
  | .andAAtHL | .andAK _ | .orAAtHL | .orAK _ | .xorAAtHL | .rolcA | .rorcA | .xchAEIR | .movDMBA | .movSTK13A => true
  | _ => false

/-- R20: the instructions that write H. -/
def writesH : Instr → Bool
  | .ldHK _ | .ldHLX _ | .xchHLX _ | .xchAH | .addHK _ | .ldHLJK _ _ => true
  | _ => false

/-- R20: the instructions that write L. -/
def writesL : Instr → Bool
  | .ldLK _ | .ldHLX _ | .xchHLX _ | .xchAL | .addLK _ | .incL | .decL | .stAAtHLInc | .stAAtHLDec | .stKAtHLInc _
  | .ldHLJK _ _ => true
  | _ => false

/-- R27: the instructions that write DMB. -/
def writesDMB : Instr → Bool
  | .clrDMB | .setDMB | .clrDMB0 | .setDMB0 | .clrDMB1 | .setDMB1 | .ldDMBK _ | .ldDMBAtHL | .movADMB => true
  | _ => false

/-- R30: the instructions that push or pop. -/
def usesStack : Instr → Bool
  | .call _ | .calls _ | .callss _ | .ret | .reti => true
  | _ => false

/-- R32, R33: the instructions that write SPW13. -/
def writesSPW13 : Instr → Bool
  | .clrSTK13 | .setSTK13 | .movASPW13 => true
  | _ => false

/-- R35: the instructions that write EIF. -/
def writesEIF : Instr → Bool
  | .eiclr _ | .ei | .diclr _ | .di | .reti => true
  | _ => false

/-- R36: the instructions that clear interrupt latches. -/
def clearsIL : Instr → Bool
  | .eiclr _ | .diclr _ | .clrIL _ => true
  | _ => false

/-- The instructions that write data memory (20_memory.md R56, R65). -/
def writesRam : Instr → Bool
  | .stAAtHL | .stAAtHLInc | .stAAtHLDec | .stAX _ | .stKAtHLInc _ | .stKY _ _ | .xchAAtHL | .xchAX _ | .xchHLX _
  | .inPAtHL _ | .inPAtHLHigh _ | .addAtHLK _ | .addYK _ _ | .subrAtHLK _ | .incAtHL | .decAtHL | .andAtHLK _ | .orAtHLK _
  | .clrAtHLB _ | .clrYB _ _ | .setAtHLB _ | .setYB _ _ | .stDMBAtHL => true
  | _ => false

/-- The instructions that write a port (R62). -/
def writesPorts : Instr → Bool
  | .outAP _ | .outAtHLP _ | .outKP _ _ | .outbAtHL | .setPB _ _ | .clrPB _ _ | .setAtL | .clrAtL => true
  | _ => false

/-- The instructions that may read a port's pins (R61). -/
def readsPins : Instr → Bool
  | .inPA _ | .inPAHigh _ | .inPAtHL _ | .inPAtHLHigh _ | .testPB _ _ | .testpPB _ _ | .testAtL => true
  | _ => false

/-- The branches, calls and returns: the instructions that write pc themselves (10_state.md R22). -/
def writesPc : Instr → Bool
  | .bss _ | .bs _ | .bslBank0 _ | .bslBank1 _ | .bslBank2 _ | .bslBank3 _ => true
  | i => usesStack i

/-! ### What an instruction accesses (60_exceptions.md R301, R302) -/

/-- One thing of an instruction that can raise a fault when it is reached. -/
inductive Access where
  /-- the operand of `LD HL, x` and `XCH HL, x` -/
  | pair (x : Byte)
  /-- a data-memory word -/
  | ram (ea : DataAddr)
  /-- a byte of program memory read as data -/
  | table (a : CodeAddr)
  /-- a port -/
  | port (p : BitVec 5)
  /-- a stack location -/
  | stack (i : BitVec 4)
deriving DecidableEq, Repr

/-- The fault an access raises, if any. -/
def Access.fault (s : State) : Access → Option Fault
  | .pair x => if x.toNat % 4 = 0 then none else some (.misalignedPair x)
  | .ram ea => s.ramFault ea
  | .table a => s.tableFault a
  | .port p => s.portFault p
  | .stack i => s.stackFault i

/-- The accesses of an instruction in the order its pseudocode makes them; an instruction that is not listed makes none that is
checked. -/
def accesses (s : State) : Instr → List Access
  | .ldAAtHL | .stAAtHL | .stAAtHLInc | .stAAtHLDec | .stKAtHLInc _ | .xchAAtHL | .cmprAAtHL | .addAAtHL | .addcAAtHL
  | .addAtHLK _ | .subrcAAtHL | .subrAtHLK _ | .incAtHL | .decAtHL | .andAAtHL | .andAtHLK _ | .orAAtHL | .orAtHLK _ | .xorAAtHL
  | .clrAtHLB _ | .setAtHLB _ | .testAtHLB _ | .ldDMBAtHL | .stDMBAtHL => [.ram s.eaHL]
  | .ldAX x | .stAX x | .xchAX x | .cmprAX x => [.ram (s.eaX x)]
  | .ldHLX x | .xchHLX x => [.pair x, .ram (s.eaX x), .ram (s.eaX (x + 1))]
  | .stKY _ y | .cmprYK y _ | .addYK y _ | .clrYB y _ | .setYB y _ | .testYB y _ | .testpYB y _ => [.ram (eaY y)]
  | .ldlAAtDC | .ldhAAtDCInc => [.table s.tableAddr]
  | .inPA p | .outKP _ p | .clrPB p _ | .setPB p _ | .testPB p _ | .testpPB p _ => [.port (portLow p)]
  | .inPAHigh p => [.port (portHigh p)]
  | .inPAtHL p => [.port (portLow p), .ram s.eaHL]
  | .inPAtHLHigh p => [.port (portHigh p), .ram s.eaHL]
  | .outAP p => [.port p]
  | .outAtHLP p => [.ram s.eaHL, .port p]
  | .outbAtHL => [.ram s.eaHL, .table (s.outbAddr (s.readRam s.eaHL)), .port 0x01, .port 0x02]
  | .clrAtL | .setAtL | .testAtL => [.port s.portAtL]
  | .call _ | .calls _ | .callss _ => [.stack s.spw]
  | .ret | .reti => [.stack s.popIndex]
  | _ => []

/-- The first fault among an instruction's accesses, if any. -/
def accessFault (i : Instr) (s : State) : Option Fault := (accesses s i).findSome? (Access.fault s)

/-- The address lies in one of the ranges, both ends included. -/
def DataAddr.inSome (ea : DataAddr) (rs : List RamRange) : Prop :=
  ∃ r ∈ rs, r.bank = ea.bank ∧ r.lo.toNat ≤ ea.addr.toNat ∧ ea.addr.toNat ≤ r.hi.toNat

/-! ### Unassigned encodings (30_encoding.md R87, R88) -/

/-- R88: the 3-byte instructions of the device, by their bytes. -/
def listedBody (d : Device) (b0 b1 b2 : Byte) : Bool :=
  decide (0x60 ≤ b1.toNat ∧ b1.toNat ≤ 0x6F) ||
  (d.series == .s470A &&
    ((b0 == 0x03 && b1 == 0x3B && (b2 == 0x59 || b2 == 0x19 || b2 == 0x99 || b2 == 0xD9)) ||
     (b0 == 0x03 && b1 == 0x3A && (b2 == 0xE9 || b2 == 0xA9 || b2 == 0x29 || b2 == 0x69)) ||
     ((b0 == 0x02 || b0 == 0x03) && b1 == 0x3A && d.stk13Op3 == some b2) ||
     (b0 == 0x03 && b1 == 0x2C && d.ldDmbImmEnc == .suggested && (b2 == 0x09 || b2 == 0x19 || b2 == 0x29 || b2 == 0x39))))

/-- R87 (a) to (f): the byte sequences that are no instruction of the device; on TLCS-470A the byte of `MOV A, SPW13` is one, whatever
it is (R89). -/
def unassigned (d : Device) (b0 b1 b2 : Byte) : Bool :=
  (d.series == .s47 && b0 == 0x1C) ||
  (d.series != .s47 && (b0 == 0x01 || b0 == 0x02 || b0 == 0x03 || b0 == 0x1C) && !listedBody d b0 b1 b2) ||
  (b0 == 0x36 && decide (b1.toNat ≤ 0x3F)) ||
  (b0 == 0x38 && (decide (0xA0 ≤ b1.toNat ∧ b1.toNat ≤ 0xBF) || decide (0xE0 ≤ b1.toNat))) ||
  (b0 == 0x3A && b1.getLsbD 4 && !(d.series == .s470A && b1 == d.movASpw13Enc)) ||
  (d.series == .s47 && b0 == 0x3A && decide (b1.toNat ≤ 0x0F ∨ (0x40 ≤ b1.toNat ∧ b1.toNat ≤ 0x4F)))

end Sys2Proof.Machine
end

