-- ==== Sys2Proof/Certificates/Slice0/Obligations.lean ====
section
/-! DEFINITION. The statements for the provers. Each docstring names the rules of spec/ it formalises; OBLIGATIONS.json lists them in
this order. A premise `s.ramFault ea = none` says that the data-memory word exists and is not guarded; `AccessChecks` says what that
means on the device's parameters. -/

open Sys2Proof Sys2Proof.Machine

/-! ### Encoding -/

/-- 30_encoding.md R82 to R90: on any device, every instruction that has words of its own, with every operand, is read back from its
words, whatever follows them. -/
def Obligations.EncodeThenDecode : Prop :=
  ∀ (d : Device) (i : Instr) (rest : List Byte), d.wf = true → i.wellFormed d = true →
    ∃ bs, encode d i = some bs ∧ decode d (bs ++ rest) = .instr i rest

/-- The other direction: what the decoder reads has words of its own on that device, and the bytes read are those words. -/
def Obligations.DecodeThenEncode : Prop :=
  ∀ (d : Device) (i : Instr) (bytes rest : List Byte), d.wf = true → decode d bytes = .instr i rest →
    i.wellFormed d = true ∧ ∃ bs, encode d i = some bs ∧ bytes = bs ++ rest

/-- R80 to R83, R88: an instruction's words are as many as its row says, and their first byte alone (with the series) tells how
many. -/
def Obligations.LengthFromFirstByte : Prop :=
  ∀ (d : Device) (i : Instr), d.wf = true → i.wellFormed d = true →
    ∃ b0 r, encode d i = some (b0 :: r) ∧ r.length + 1 = i.length ∧ instrLength d.series b0 = i.length

/-- R87 with R88 and R89: among three bytes, the decoder rejects exactly the unassigned sequences: 1CH on TLCS-47; on the other
series a prefix byte not followed by a listed body; 36H, 38H and 3AH with the second bytes the rule lists. -/
def Obligations.IllegalExactlyUnassigned : Prop :=
  ∀ (d : Device) (b0 b1 b2 : Byte), d.wf = true →
    ((∃ bs, decode d [b0, b1, b2] = .illegal bs) ↔ unassigned d b0 b1 b2 = true)

/-- Words written out from the object-code columns, one or more for each family, and the instructions they stand for. -/
def Obligations.WordsDecodeAsWritten : Prop :=
  decode Device.default [0x3C, 0x25] = .instr (.ldAX 0x25) [] ∧
  decode Device.default [0x29, 0x74] = .instr (.xchHLX 0x74) [] ∧
  decode Device.default [0x3A, 0xA5] = .instr (.outAP 0x15) [] ∧
  decode Device.default [0x2E, 0x53] = .instr (.cmprYK 3 5) [] ∧
  decode Device.default [0x38, 0x7A] = .instr (.andAtHLK 0xA) [] ∧
  decode Device.default [0x05] = .instr .rolcA [] ∧
  decode Device.default [0x39, 0x72] = .instr (.clrYB 2 3) [] ∧
  decode Device.default [0x04] = .instr .testpCF [] ∧
  decode Device.default [0x03, 0x3B, 0x59] = .instr .clrDMB1 [] ∧
  decode Device.default [0x1C, 0x6A, 0xBC] = .instr (.bslBank2 0xABC) [] ∧
  decode Device.default [0x23, 0x45] = .instr (.call 0x345) [] ∧
  decode Device.default [0x36, 0x7F] = .instr (.eiclr 0x3F) [] ∧
  decode Device.default [0x3A, 0x04] = .instr .movSTK13A [] ∧
  decode Device.default [0x00] = .instr .nop []

/-- R92, 40_data_transfer.md R125, 48_subroutine.md R271, 49_interrupt_stk13_cpu.md R282, R284: the second spellings do what the
instructions they stand for do, one after the other. -/
def Obligations.SpellingsEqualExpansions : Prop :=
  (∀ (n : Nibble) (s : State), exec (.callss n) s = exec (.calls n) s) ∧
  (∀ s : State, exec .ei s = exec (.eiclr 0x3F) s) ∧
  (∀ s : State, exec .di s = exec (.diclr 0x3F) s) ∧
  (∀ (j k : Nibble) (s : State), ∃ t, exec (.ldHK j) s = .next t ∧ exec (.ldLK k) t = exec (.ldHLJK j k) s)

/-- 47_branch.md R263: the instruction the assembler takes for `B a` at pc reaches `a` when SF is 1, and goes on to the next
instruction when SF is 0. -/
def Obligations.AssembledBranchLands : Prop :=
  ∀ (s : State) (a : CodeAddr), s.pcFits → a.toNat < 2 ^ s.dev.series.pcw →
    BranchesTo (assembleB s.dev.series s.pc a) s a (assembleB s.dev.series s.pc a).length

/-! ### One step -/

/-- 60_exceptions.md R302: when no interrupt is accepted and the bytes at pc lie in program memory and decode to an instruction, the
step is that instruction's execution in the state the environment has acted on. -/
def Obligations.StepRunsDecodedInstruction : Prop :=
  ∀ (s : State) (i : Instr) (r : List Byte), s.accepted = none → (∀ a ∈ s.fetchAddrs, a.toNat < s.dev.romSize) →
    decode s.dev s.fetchBytes = .instr i r → step s = exec i s.boundary

/-- R302 with 20_memory.md R52, R58: the same for the words of any instruction, found in program memory from pc on, first byte first,
modulo the width of PC. -/
def Obligations.StepRunsEncodedInstruction : Prop :=
  ∀ (s : State) (i : Instr) (bs : List Byte), s.dev.wf = true → i.wellFormed s.dev = true → encode s.dev i = some bs →
    s.accepted = none →
    (∀ k : Nat, k < bs.length → (s.npc k).toNat < s.dev.romSize ∧ some (s.romByte (s.npc k)) = bs[k]?) →
    step s = exec i s.boundary

/-- 20_memory.md R58, 30_encoding.md R87, R302 (2) and (3): when no interrupt is accepted, the first instruction byte outside
program memory is the fault; with none outside, bytes that are no instruction are the fault. -/
def Obligations.StepFetchAndDecodeFaults : Prop :=
  ∀ s : State, s.accepted = none →
    (∀ k : Nat, k < s.fetchLength → (∀ j : Nat, j < k → (s.npc j).toNat < s.dev.romSize) → s.dev.romSize ≤ (s.npc k).toNat →
      step s = .fault (.fetchOutsideRom (s.npc k))) ∧
    ((∀ k : Nat, k < s.fetchLength → (s.npc k).toNat < s.dev.romSize) →
      (∃ bs, decode s.dev s.fetchBytes = .illegal bs) → step s = .fault (.illegalInstruction s.pc s.fetchBytes))

/-- R301, R302 (4) and (5): an instruction stops exactly where one of its accesses does, with the first fault in the order its
pseudocode makes them, and answers a next state otherwise; it never refuses. -/
def Obligations.ExecStopsExactlyOnFirstFault : Prop :=
  ∀ (i : Instr) (s : State),
    (∀ f, exec i s = .fault f ↔ accessFault i s = some f) ∧ ((∃ t, exec i s = .next t) ↔ accessFault i s = none)

/-- 20_memory.md R54, R57, R59, R60, R64, 48_subroutine.md R274, 60_exceptions.md R302: what each check reads off the parameters, and which
fault comes first. That port 14H is reserved on TLCS-470A and not on TLCS-470 is the model's reading (log 23). -/
def Obligations.AccessChecks : Prop :=
  ∀ s : State,
    (∀ ea : DataAddr,
      (s.ramFault ea = some (.ramNotImplemented ea.bank ea.addr) ↔ ¬ ea.inSome s.dev.ramImplemented) ∧
      (s.ramFault ea = some (.guardedRam ea.bank ea.addr) ↔
        ea.inSome s.dev.ramImplemented ∧ ea.inSome s.dev.stackAliasGuard) ∧
      (s.ramFault ea = none ↔ ea.inSome s.dev.ramImplemented ∧ ¬ ea.inSome s.dev.stackAliasGuard)) ∧
    (∀ a : CodeAddr, (s.tableFault a = some (.romReadOutsideRom a) ↔ s.dev.romSize ≤ a.toNat) ∧
      (s.tableFault a = none ↔ a.toNat < s.dev.romSize)) ∧
    (∀ p : BitVec 5,
      (s.portFault p = some (.reservedPort p) ↔
        (s.dev.series ≠ .s47 ∧ p = 0x09) ∨ (s.dev.series = .s470A ∧ p = 0x14)) ∧
      (s.portFault p = some (.portAbsent p) ↔
        ¬ ((s.dev.series ≠ .s47 ∧ p = 0x09) ∨ (s.dev.series = .s470A ∧ p = 0x14)) ∧ Device.kindOf s.dev p = .absent) ∧
      (s.portFault p = none ↔
        ¬ ((s.dev.series ≠ .s47 ∧ p = 0x09) ∨ (s.dev.series = .s470A ∧ p = 0x14)) ∧ Device.kindOf s.dev p ≠ .absent)) ∧
    (∀ i : BitVec 4, (s.stackFault i = some (.stackLocationUnusable i) ↔ s.dev.stackUsable.getLsbD i.toNat = false) ∧
      (s.stackFault i = none ↔ s.dev.stackUsable.getLsbD i.toNat = true))

/-- 20_memory.md R53: the pair instructions raise `MisalignedPair` where the operand's low two bits are not 0, before any other check,
and no other instruction, operand or address ever raises it. -/
def Obligations.MisalignedPairRule : Prop :=
  (∀ (x : Byte) (s : State), x.toNat % 4 ≠ 0 →
    exec (.ldHLX x) s = .fault (.misalignedPair x) ∧ exec (.xchHLX x) s = .fault (.misalignedPair x)) ∧
  (∀ (i : Instr) (x : Byte) (s : State), exec i s = .fault (.misalignedPair x) →
    (i = .ldHLX x ∨ i = .xchHLX x) ∧ x.toNat % 4 ≠ 0) ∧
  (∀ (s : State) (i : Fin 6) (x : Byte), s.takeInterrupt i ≠ .fault (.misalignedPair x)) ∧
  (∀ (s : State) (x : Byte), firstFault s.fetchFaults ≠ some (.misalignedPair x))

/-! ### Interrupts -/

/-- 60_exceptions.md R303: at a boundary the environment sets latch bits and clears none, records one event for each request in front of
the events so far, uses up one entry of its schedule (the model's list: log 16, log 17), and changes nothing else. -/
def Obligations.BoundarySetsLatches : Prop :=
  ∀ s : State,
    (∀ j : Fin 6, s.boundary.il.getLsbD j = (s.il.getLsbD j || s.requests.getLsbD j)) ∧
    (∀ e : Event, e ∈ irqEvents s.requests ↔ ∃ j : Fin 6, e = .irq j ∧ s.requests.getLsbD j = true) ∧
    (irqEvents s.requests).Nodup ∧
    s.boundary = { s with schedule := s.schedule.tail, il := s.boundary.il, events := irqEvents s.requests ++ s.events }

/-- R304: an interrupt is accepted exactly when acceptance is not delayed, EIF is 1 and some latched request is enabled; the accepted
one is latched and enabled and comes first in the priority order. -/
def Obligations.AcceptedExactlyWhenPending : Prop :=
  ∀ s : State,
    (s.accepted ≠ none ↔ s.holding = false ∧ s.eif = true ∧
      ∃ j : Fin 6, s.boundary.il.getLsbD j = true ∧ IntConfig.enabled s.dev.intConfig j s.eir = true) ∧
    (∀ i : Fin 6, s.accepted = some i → s.boundary.il.getLsbD i = true ∧ IntConfig.enabled s.dev.intConfig i s.eir = true ∧
      ((∀ j : Fin 6, j ∈ s.dev.intConfig.order) → ∀ j : Fin 6, s.boundary.il.getLsbD j = true →
        IntConfig.enabled s.dev.intConfig j s.eir = true → s.dev.intConfig.order.idxOf i ≤ s.dev.intConfig.order.idxOf j))

/-- R304, 48_subroutine.md R274: taking an interrupt. pc and FLAG are saved in location SPW, SPW is decremented, EIF and the latch are cleared,
pc goes to the vector; the flags the routine sees are not stated, and every other field is as before. -/
def Obligations.InterruptEntry : Prop :=
  ∀ (s : State) (i : Fin 6), s.accepted = some i → s.stackFault s.spw = none →
    ∃ t, step s = .next t ∧
      t.pc.toNat = (s.dev.intConfig.vector.get i).toNat % 2 ^ s.dev.series.pcw ∧
      (∀ j : Fin 6, t.il.getLsbD j = (s.boundary.il.getLsbD j && j ≠ i)) ∧
      t.spw.toNat = (s.spw.toNat + 15) % 16 ∧
      (t.stack.get s.spw.toFin).pc.toNat = s.pc.toNat % 8192 ∧
      (t.stack.get s.spw.toFin).flag.cf = s.cf ∧ (t.stack.get s.spw.toFin).flag.zf = s.zf ∧
      (t.stack.get s.spw.toFin).flag.sf = s.sf ∧
      (s.dev.series = .s47 → (t.stack.get s.spw.toFin).flag.gf = s.gf) ∧
      (t.stk13.get s.spw.toFin = true ↔ s.dev.series ≠ .s47 ∧ 8192 ≤ s.pc.toNat) ∧
      (∀ j : Fin 16, j ≠ s.spw.toFin → t.stack.get j = s.stack.get j ∧ t.stk13.get j = s.stk13.get j) ∧
      t = { s.boundary with
        pc := t.pc, spw := t.spw, stack := t.stack, stk13 := t.stk13, eif := false, il := t.il
        cf := t.cf, zf := t.zf, sf := t.sf, gf := t.gf, freeCount := t.freeCount }

/-- R304, R307, 49_interrupt_stk13_cpu.md R286: `RETI` right after an entry undoes it: pc, FLAG, SPW and EIF are as they were before
the entry, the latch that was served is 0, and of the rest only the location used and the model's counter (log 14) may differ. -/
def Obligations.RetiUndoesEntry : Prop :=
  ∀ (s t : State) (i : Fin 6), s.pcFits → s.accepted = some i → step s = .next t →
    ∃ u, exec .reti t = .next u ∧
      (∀ j : Fin 16, j ≠ s.spw.toFin → u.stack.get j = s.stack.get j ∧ u.stk13.get j = s.stk13.get j) ∧
      (∀ j : Fin 6, u.il.getLsbD j = (s.boundary.il.getLsbD j && j ≠ i)) ∧
      u = { s.boundary with stack := u.stack, stk13 := u.stk13, il := u.il, freeCount := u.freeCount }

/-- 48_subroutine.md R270, R272, R273, R274: `RET` right after a call goes to the instruction after the call, with SPW as it was; of the rest
only the location used and the model's counter (log 14) may differ. -/
def Obligations.RetUndoesCall : Prop :=
  ∀ s : State, s.stackFault s.spw = none →
    (∀ n : Nibble, ∃ t u, exec (.calls n) s = .next t ∧ exec .ret t = .next u ∧
      (∀ j : Fin 16, j ≠ s.spw.toFin → u.stack.get j = s.stack.get j ∧ u.stk13.get j = s.stk13.get j) ∧
      u = { s with pc := s.npc 1, stack := u.stack, stk13 := u.stk13, freeCount := u.freeCount }) ∧
    (∀ a : BitVec 11, ∃ t u, exec (.call a) s = .next t ∧ exec .ret t = .next u ∧
      (∀ j : Fin 16, j ≠ s.spw.toFin → u.stack.get j = s.stack.get j ∧ u.stk13.get j = s.stk13.get j) ∧
      u = { s with pc := s.npc 2, stack := u.stack, stk13 := u.stk13, freeCount := u.freeCount })

/-! ### Reset and invariants -/

/-- 10_state.md R41, 70_reset_and_hazards.md R330: reset puts PC at RESET_PC and zero in EIF, EIR and IL, on any device; RESET_PC of the
model's device is the spec's default. -/
def Obligations.ResetState : Prop :=
  (∀ d : Device, (State.resetOn d).dev = d ∧ (State.resetOn d).pc = d.resetPc ∧ (State.resetOn d).eif = false ∧
    (State.resetOn d).eir = 0 ∧ (State.resetOn d).il = 0) ∧
  State.reset = State.resetOn Device.default ∧ State.reset.pc = 0

/-- The state after reset satisfies the invariant, on every device whose RESET_PC fits its PC. -/
def Obligations.ResetHasInvariant : Prop :=
  State.reset.Inv ∧ ∀ d : Device, d.resetPc.toNat < 2 ^ d.series.pcw → (State.resetOn d).Inv

/-- 10_state.md R22, R27, 20_memory.md R50: every step keeps the invariant: both memories in canonical form, PC, DMB and data memory at the
widths of the series. -/
def Obligations.StepKeepsInvariant : Prop := ∀ s t : State, s.Inv → step s = .next t → t.Inv

/-- 20_memory.md R72 (with 10_state.md R42): no number of steps changes program memory, so that a byte read from it, for a fetch or as
data, is always the launch's; nor the parameters. -/
def Obligations.ProgramMemoryNeverWritten : Prop :=
  ∀ (k : Nat) (s t : State), Host.Core.run Sys2Proof.core k s = .next t →
    t.rom = s.rom ∧ t.dev = s.dev ∧ ∀ a : CodeAddr, t.romByte a = s.romByte a

/-- 20_memory.md R54, R59: no number of steps changes a data-memory word that the device does not have or that is guarded. -/
def Obligations.ProtectedWordsNeverWritten : Prop :=
  ∀ (k : Nat) (s t : State) (ea : DataAddr), Host.Core.run Sys2Proof.core k s = .next t →
    ¬ ea.inSome s.dev.ramImplemented ∨ ea.inSome s.dev.stackAliasGuard → t.readRam ea = s.readRam ea

/-! ### What the instruction set as a whole does not do -/

/-- 10_state.md R24: CF is written only by the instructions the rule lists; `NOP`, `CALL`, `CALLS` and `RET` leave all three flags
unchanged, and ZF and SF are otherwise as each instruction's own statement says. -/
def Obligations.FlagWriters : Prop :=
  ∀ (i : Instr) (s t : State), exec i s = .next t →
    (writesCF i = false → t.cf = s.cf) ∧ (keepsFlags i = true → t.cf = s.cf ∧ t.zf = s.zf ∧ t.sf = s.sf)

/-- 10_state.md R20: A, H and L are written only by the instructions the rule lists. -/
def Obligations.GeneralRegisterWriters : Prop :=
  ∀ (i : Instr) (s t : State), exec i s = .next t →
    (writesA i = false → t.a = s.a) ∧ (writesH i = false → t.h = s.h) ∧ (writesL i = false → t.l = s.l)

/-- 10_state.md R27 to R36: the special registers are written only by the instructions their rules list; no instruction writes DTB,
and software can only clear bits of IL. -/
def Obligations.SpecialRegisterWriters : Prop :=
  ∀ (i : Instr) (s t : State), exec i s = .next t →
    (writesDMB i = false → t.dmb = s.dmb) ∧ t.dtb = s.dtb ∧ (i ≠ .ldhAAtDCInc → t.dc = s.dc) ∧
    (usesStack i = false → t.spw = s.spw ∧ t.stack = s.stack) ∧
    (usesStack i = false → i ≠ .clrSTK13 → i ≠ .setSTK13 → t.stk13 = s.stk13) ∧
    (writesSPW13 i = false → t.spw13 = s.spw13) ∧ (i ≠ .xchAEIR → t.eir = s.eir) ∧ (writesEIF i = false → t.eif = s.eif) ∧
    (∀ j : Fin 6, t.il.getLsbD j = true → s.il.getLsbD j = true) ∧ (clearsIL i = false → t.il = s.il)

/-- 20_memory.md R56, R61, R62, R65: data memory is written only by the instructions that store, port latches only by those that
output, and a pin is drawn only by those that input; the others leave every word, latch and event as it was. -/
def Obligations.MemoryAndPortWriters : Prop :=
  ∀ (i : Instr) (s t : State), exec i s = .next t →
    (writesRam i = false → ∀ ea : DataAddr, t.readRam ea = s.readRam ea) ∧
    (writesPorts i = false → ∀ p : BitVec 5, t.latchOf p = s.latchOf p) ∧
    (readsPins i = false → t.pins = s.pins) ∧
    (writesPorts i = false → readsPins i = false → t.events = s.events) ∧ t.schedule = s.schedule

/-- 10_state.md R22, 40_data_transfer.md R110: every instruction that is not a branch, a call or a return ends with `pc <- npc`, for the
length of its row, modulo the width of PC. -/
def Obligations.PcAdvancesPastInstruction : Prop :=
  ∀ (i : Instr) (s t : State), exec i s = .next t → writesPc i = false →
    t.pc.toNat = (s.pc.toNat + i.length) % 2 ^ s.dev.series.pcw

/-! ### Operand addresses -/

/-- 20_memory.md R51, 10_state.md R21, R27: the three data-memory addressing modes, on each series, as numbers. -/
def Obligations.OperandAddresses : Prop :=
  ∀ (s : State) (x : Byte) (y : Nibble),
    s.eaHL.addr.toNat = 16 * s.h.toNat + s.l.toNat ∧ (s.eaX x).addr = x ∧
    (eaY y).bank = 0 ∧ (eaY y).addr.toNat = y.toNat ∧
    (s.dev.series = .s47 → s.eaHL.bank = 0 ∧ (s.eaX x).bank = 0) ∧
    (s.dev.series = .s470 → s.eaHL.bank.toNat = s.dmb.toNat % 2 ∧ (s.eaX x).bank.toNat = s.dmb.toNat % 2) ∧
    (s.dev.series = .s470A → s.eaHL.bank = s.dmb ∧ (s.eaX x).bank = s.dmb)

/-- 20_memory.md R57, 10_state.md R28: the table look-up address on each series, and the address of `OUTB`'s byte in the last 32 bytes of
program memory. -/
def Obligations.TableAddresses : Prop :=
  ∀ (s : State) (m : Nibble),
    (s.dev.series = .s47 → s.tableAddr.toNat = s.dc.toNat) ∧
    (s.dev.series = .s470 → s.tableAddr.toNat = 4096 + s.dc.toNat) ∧
    (s.dev.series = .s470A → s.tableAddr.toNat = 4096 * s.dtb.toNat + s.dc.toNat) ∧
    (32 ≤ s.dev.romSize → s.dev.romSize ≤ 2 ^ s.dev.series.pcw →
      (s.outbAddr m).toNat = s.dev.romSize - 32 + (16 * s.cf.toNat + m.toNat) ∧ (s.outbAddr m).toNat < s.dev.romSize)

/-! ### The instructions: data transfer and exchange -/

/-- 40_data_transfer.md R111, R112, R122, R126, R127: the loads of A from data memory, an immediate, H and L. -/
def Obligations.LoadAccumulator : Prop :=
  ∀ s : State,
    (s.ramFault s.eaHL = none → LoadsA .ldAAtHL s (s.readRam s.eaHL) true 1) ∧
    (∀ x : Byte, s.ramFault (s.eaX x) = none → LoadsA (.ldAX x) s (s.readRam (s.eaX x)) true 2) ∧
    (∀ k : Nibble, LoadsA (.ldAK k) s k true 1) ∧ LoadsA .movHA s s.h true 1 ∧ LoadsA .movLA s s.l true 1

/-- R114, R115: the table look-ups give A the low and the high four bits of the table byte; `LDH` increments DC modulo 4096. -/
def Obligations.TableLookup : Prop :=
  ∀ s : State, s.tableAddr.toNat < s.dev.romSize →
    LoadsA .ldlAAtDC s (BitVec.ofNat 4 ((s.romByte s.tableAddr).toNat % 16)) true 1 ∧
    ∃ t, exec .ldhAAtDCInc s = .next t ∧ t.dc.toNat = (s.dc.toNat + 1) % 4096 ∧
      t.a.toNat = (s.romByte s.tableAddr).toNat / 16 ∧
      t = { s with a := t.a, zf := decide (t.a = 0), sf := true, dc := t.dc, pc := s.npc 1 }

/-- R113, R123, R124, R125: the loads of H and L: an aligned pair of words (low nibble first), immediates. ZF is kept. -/
def Obligations.LoadHL : Prop :=
  ∀ s : State,
    (∀ x : Byte, x.toNat % 4 = 0 → s.ramFault (s.eaX x) = none → s.ramFault (s.eaX (x + 1)) = none →
      exec (.ldHLX x) s =
        .next { s with l := s.readRam (s.eaX x), h := s.readRam (s.eaX (x + 1)), sf := true, pc := s.npc 2 }) ∧
    (∀ k : Nibble, exec (.ldHK k) s = .next { s with h := k, sf := true, pc := s.npc 1 }) ∧
    (∀ k : Nibble, exec (.ldLK k) s = .next { s with l := k, sf := true, pc := s.npc 1 }) ∧
    (∀ j k : Nibble, exec (.ldHLJK j k) s = .next { s with h := j, l := k, sf := true, pc := s.npc 2 })

/-- R116, R119, R121: the stores of A and of an immediate. -/
def Obligations.StoreWord : Prop :=
  ∀ s : State, Memory.wf s.ram →
    (s.ramFault s.eaHL = none → StoresWord .stAAtHL s s.eaHL s.a true 1) ∧
    (∀ x : Byte, s.ramFault (s.eaX x) = none → StoresWord (.stAX x) s (s.eaX x) s.a true 2) ∧
    (∀ k y : Nibble, s.ramFault (eaY y) = none → StoresWord (.stKY k y) s (eaY y) k true 2)

/-- R117, R118, R120, 10_state.md R21: the stores that step L: the word goes to the address before the step, L moves modulo 16 with H kept, SF is 0
exactly when L wraps, ZF is the new L's zero detect. -/
def Obligations.StoreAndStep : Prop :=
  ∀ s : State, Memory.wf s.ram → s.ramFault s.eaHL = none →
    (∃ t, exec .stAAtHLInc s = .next t ∧ t.readRam s.eaHL = s.a ∧ RamSameBut s t s.eaHL ∧ t.l.toNat = (s.l.toNat + 1) % 16 ∧
      t = { s with ram := t.ram, l := t.l, zf := decide (t.l = 0), sf := decide (s.l ≠ 15), pc := s.npc 1 }) ∧
    (∃ t, exec .stAAtHLDec s = .next t ∧ t.readRam s.eaHL = s.a ∧ RamSameBut s t s.eaHL ∧ t.l.toNat = (s.l.toNat + 15) % 16 ∧
      t = { s with ram := t.ram, l := t.l, zf := decide (t.l = 0), sf := decide (s.l ≠ 0), pc := s.npc 1 }) ∧
    (∀ k : Nibble, ∃ t, exec (.stKAtHLInc k) s = .next t ∧ t.readRam s.eaHL = k ∧ RamSameBut s t s.eaHL ∧
      t.l.toNat = (s.l.toNat + 1) % 16 ∧
      t = { s with ram := t.ram, l := t.l, zf := decide (t.l = 0), sf := decide (s.l ≠ 15), pc := s.npc 1 })

/-- 41_exchange.md R130, R131, R132: the exchanges with data memory: both old values are read before either is written. -/
def Obligations.ExchangeMemory : Prop :=
  ∀ s : State, Memory.wf s.ram →
    (s.ramFault s.eaHL = none → ∃ t, exec .xchAAtHL s = .next t ∧ t.readRam s.eaHL = s.a ∧ RamSameBut s t s.eaHL ∧
      t.a = s.readRam s.eaHL ∧ t = { s with ram := t.ram, a := t.a, zf := decide (t.a = 0), sf := true, pc := s.npc 1 }) ∧
    (∀ x : Byte, s.ramFault (s.eaX x) = none → ∃ t, exec (.xchAX x) s = .next t ∧ t.readRam (s.eaX x) = s.a ∧
      RamSameBut s t (s.eaX x) ∧ t.a = s.readRam (s.eaX x) ∧
      t = { s with ram := t.ram, a := t.a, zf := decide (t.a = 0), sf := true, pc := s.npc 2 }) ∧
    (∀ x : Byte, x.toNat % 4 = 0 → s.ramFault (s.eaX x) = none → s.ramFault (s.eaX (x + 1)) = none →
      ∃ t, exec (.xchHLX x) s = .next t ∧ t.readRam (s.eaX x) = s.l ∧ t.readRam (s.eaX (x + 1)) = s.h ∧
        (∀ e : DataAddr, e ≠ s.eaX x → e ≠ s.eaX (x + 1) → t.readRam e = s.readRam e) ∧
        t = { s with
          ram := t.ram, l := s.readRam (s.eaX x), h := s.readRam (s.eaX (x + 1)), sf := true, pc := s.npc 2 })

/-- R133, R134, 49_interrupt_stk13_cpu.md R280: the exchanges of A with H, L and EIR; the last does not write ZF. -/
def Obligations.ExchangeRegisters : Prop :=
  ∀ s : State,
    exec .xchAH s = .next { s with a := s.h, h := s.a, zf := decide (s.h = 0), sf := true, pc := s.npc 1 } ∧
    exec .xchAL s = .next { s with a := s.l, l := s.a, zf := decide (s.l = 0), sf := true, pc := s.npc 1 } ∧
    exec .xchAEIR s = .next { s with a := s.eir, eir := s.a, sf := true, pc := s.npc 1 }

/-! ### Input and output -/

/-- 42_input_output.md R140 to R143, 20_memory.md R61: the inputs take the value the environment supplies next (where State lists none, a value
nothing fixes: log 15), and record the event; from ports 00H to 0FH SF is 1 when the value is not 0, from 10H to 1FH SF is 1; ZF is
written with A only. -/
def Obligations.InputPort : Prop :=
  ∀ (s : State) (p : Nibble), Memory.wf s.ram →
    (∀ (v : Nibble) (vs : List Nibble), s.pins = v :: vs → s.pinValue = v) ∧
    (s.portFault (portLow p) = none → exec (.inPA p) s = .next { s with
      a := s.pinValue, zf := decide (s.pinValue = 0), sf := decide (s.pinValue ≠ 0), pc := s.npc 2
      pins := s.pins.tail, events := .portIn (portLow p) s.pinValue :: s.events, freeCount := s.freeCount + 1 }) ∧
    (s.portFault (portHigh p) = none → exec (.inPAHigh p) s = .next { s with
      a := s.pinValue, zf := decide (s.pinValue = 0), sf := true, pc := s.npc 2
      pins := s.pins.tail, events := .portIn (portHigh p) s.pinValue :: s.events, freeCount := s.freeCount + 1 }) ∧
    (s.portFault (portLow p) = none → s.ramFault s.eaHL = none →
      ∃ t, exec (.inPAtHL p) s = .next t ∧ t.readRam s.eaHL = s.pinValue ∧ RamSameBut s t s.eaHL ∧ t = { s with
        ram := t.ram, sf := decide (s.pinValue ≠ 0), pc := s.npc 2
        pins := s.pins.tail, events := .portIn (portLow p) s.pinValue :: s.events, freeCount := s.freeCount + 1 }) ∧
    (s.portFault (portHigh p) = none → s.ramFault s.eaHL = none →
      ∃ t, exec (.inPAtHLHigh p) s = .next t ∧ t.readRam s.eaHL = s.pinValue ∧ RamSameBut s t s.eaHL ∧ t = { s with
        ram := t.ram, sf := true, pc := s.npc 2
        pins := s.pins.tail, events := .portIn (portHigh p) s.pinValue :: s.events, freeCount := s.freeCount + 1 })

/-- 42_input_output.md R144, R145, R146, 20_memory.md R62: the outputs of A, of a data-memory word and of an immediate. -/
def Obligations.OutputPort : Prop :=
  ∀ s : State,
    (∀ p : BitVec 5, s.portFault p = none → WritesPort (.outAP p) s p s.a 2) ∧
    (∀ p : BitVec 5, s.ramFault s.eaHL = none → s.portFault p = none → WritesPort (.outAtHLP p) s p (s.readRam s.eaHL) 2) ∧
    (∀ k p : Nibble, s.portFault (portLow p) = none → WritesPort (.outKP k p) s (portLow p) k 2)

/-- 42_input_output.md R147: `OUTB` puts the low four bits of the table byte at CF and the word at HL into port 01H and the high four into
port 02H. The order of the two output events is the spec's own choice (log 31). -/
def Obligations.OutputTable : Prop :=
  ∀ (s : State) (d : Byte), 32 ≤ s.dev.romSize → s.dev.romSize ≤ 2 ^ s.dev.series.pcw → s.ramFault s.eaHL = none →
    s.portFault 0x01 = none → s.portFault 0x02 = none →
    d = Memory.read s.rom (s.dev.romSize - 32 + (16 * s.cf.toNat + (s.readRam s.eaHL).toNat)) →
    ∃ t, exec .outbAtHL s = .next t ∧ (t.latchOf 0x01).toNat = d.toNat % 16 ∧ (t.latchOf 0x02).toNat = d.toNat / 16 ∧
      (∀ q : BitVec 5, q ≠ 0x01 → q ≠ 0x02 → t.latchOf q = s.latchOf q) ∧
      t = { s with
        latch := t.latch
        events := .portOut 0x02 (t.latchOf 0x02) :: .portOut 0x01 (t.latchOf 0x01) :: s.events
        sf := true, pc := s.npc 1 }

/-! ### Arithmetic, logic, rotation -/

/-- 43_arithmetic_logical.md R160 to R165, R189: the compares; the operand named first is the subtrahend. Those of A and of memory write CF,
and SF is 1 when the two differ; those of H and L keep CF, and SF is 1 when the register is at most k. -/
def Obligations.CompareInstructions : Prop :=
  ∀ s : State,
    (s.ramFault s.eaHL = none → Compares .cmprAAtHL s (s.readRam s.eaHL) s.a 1) ∧
    (∀ x : Byte, s.ramFault (s.eaX x) = none → Compares (.cmprAX x) s (s.readRam (s.eaX x)) s.a 2) ∧
    (∀ y k : Nibble, s.ramFault (eaY y) = none → Compares (.cmprYK y k) s k (s.readRam (eaY y)) 2) ∧
    (∀ k : Nibble, Compares (.cmprAK k) s k s.a 1 ∧
      exec (.cmprHK k) s =
        .next { s with zf := decide (s.h = k), sf := decide (s.h.toNat ≤ k.toNat), pc := s.npc 2 } ∧
      exec (.cmprLK k) s =
        .next { s with zf := decide (s.l = k), sf := decide (s.l.toNat ≤ k.toNat), pc := s.npc 2 })

/-- R166, R170, R171, R172, R178, R180, R189: the additions into a register: modulo 16, SF is 1 when there is no carry, CF is kept. -/
def Obligations.AddToRegister : Prop :=
  ∀ (s : State) (k : Nibble),
    (s.ramFault s.eaHL = none → LoadsA .addAAtHL s (s.a + s.readRam s.eaHL)
      (decide (s.a.toNat + (s.readRam s.eaHL).toNat < 16)) 1) ∧
    LoadsA (.addAK k) s (s.a + k) (decide (s.a.toNat + k.toNat < 16)) 2 ∧
    LoadsA .incA s (s.a + 1) (decide (s.a ≠ 15)) 1 ∧
    exec (.addHK k) s = .next { s with
      h := s.h + k, zf := decide (s.h + k = 0), sf := decide (s.h.toNat + k.toNat < 16), pc := s.npc 2 } ∧
    exec (.addLK k) s = .next { s with
      l := s.l + k, zf := decide (s.l + k = 0), sf := decide (s.l.toNat + k.toNat < 16), pc := s.npc 2 } ∧
    exec .incL s = .next { s with l := s.l + 1, zf := decide (s.l + 1 = 0), sf := decide (s.l ≠ 15), pc := s.npc 1 }

/-- R167, R173, R189: the two instructions that take CF in and leave it for a multi-word chain: `ADDC` adds it, `SUBRC` subtracts A
and the inverse of CF from the word; SF is 1 when there is no carry, respectively no borrow. -/
def Obligations.AddSubtractWithCarry : Prop :=
  ∀ s : State, s.ramFault s.eaHL = none →
    (∃ t, exec .addcAAtHL s = .next t ∧
      t.a.toNat + 16 * t.cf.toNat = s.a.toNat + (s.readRam s.eaHL).toNat + s.cf.toNat ∧
      t = { s with a := t.a, cf := t.cf, zf := decide (t.a = 0), sf := !t.cf, pc := s.npc 1 }) ∧
    (∃ t, exec .subrcAAtHL s = .next t ∧
      t.a.toNat + s.a.toNat + (!s.cf).toNat = (s.readRam s.eaHL).toNat + 16 * (!t.cf).toNat ∧
      t = { s with a := t.a, cf := t.cf, zf := decide (t.a = 0), sf := t.cf, pc := s.npc 1 })

/-- R168, R169, R174, R176, R177, R189: the additions to and subtractions from a data-memory word; `SUBR` computes k minus the word. -/
def Obligations.MemoryArithmetic : Prop :=
  ∀ (s : State) (k : Nibble), Memory.wf s.ram →
    (s.ramFault s.eaHL = none →
      StoresWordZS (.addAtHLK k) s s.eaHL (s.readRam s.eaHL + k) (decide ((s.readRam s.eaHL).toNat + k.toNat < 16)) 2 ∧
      StoresWordZS (.subrAtHLK k) s s.eaHL (k - s.readRam s.eaHL) (decide ((s.readRam s.eaHL).toNat ≤ k.toNat)) 2 ∧
      StoresWordZS .incAtHL s s.eaHL (s.readRam s.eaHL + 1) (decide (s.readRam s.eaHL ≠ 15)) 1 ∧
      StoresWordZS .decAtHL s s.eaHL (s.readRam s.eaHL - 1) (decide (s.readRam s.eaHL ≠ 0)) 1) ∧
    (∀ y : Nibble, s.ramFault (eaY y) = none →
      StoresWordZS (.addYK y k) s (eaY y) (s.readRam (eaY y) + k) (decide ((s.readRam (eaY y)).toNat + k.toNat < 16)) 2)

/-- R175, R179, R181, R189: the subtractions from a register and from the immediate; SF is 1 when there is no borrow, CF is kept. -/
def Obligations.SubtractRegister : Prop :=
  ∀ s : State,
    (∀ k : Nibble, LoadsA (.subrAK k) s (k - s.a) (decide (s.a.toNat ≤ k.toNat)) 2) ∧
    LoadsA .decA s (s.a - 1) (decide (s.a ≠ 0)) 1 ∧
    exec .decL s = .next { s with l := s.l - 1, zf := decide (s.l - 1 = 0), sf := decide (s.l ≠ 0), pc := s.npc 1 }

/-- R182 to R188: the logical operations on A and on a data-memory word: ZF is the zero detect of the result, SF its inverse, CF is
kept. -/
def Obligations.LogicalOperations : Prop :=
  ∀ (s : State) (k : Nibble),
    LoadsA (.andAK k) s (s.a &&& k) (decide (s.a &&& k ≠ 0)) 2 ∧ LoadsA (.orAK k) s (s.a ||| k) (decide (s.a ||| k ≠ 0)) 2 ∧
    (s.ramFault s.eaHL = none →
      LoadsA .andAAtHL s (s.a &&& s.readRam s.eaHL) (decide (s.a &&& s.readRam s.eaHL ≠ 0)) 1 ∧
      LoadsA .orAAtHL s (s.a ||| s.readRam s.eaHL) (decide (s.a ||| s.readRam s.eaHL ≠ 0)) 1 ∧
      LoadsA .xorAAtHL s (s.a ^^^ s.readRam s.eaHL) (decide (s.a ≠ s.readRam s.eaHL)) 1 ∧
      (Memory.wf s.ram →
        StoresWordZS (.andAtHLK k) s s.eaHL (s.readRam s.eaHL &&& k) (decide (s.readRam s.eaHL &&& k ≠ 0)) 2 ∧
        StoresWordZS (.orAtHLK k) s s.eaHL (s.readRam s.eaHL ||| k) (decide (s.readRam s.eaHL ||| k ≠ 0)) 2))

/-- 44_rotation.md R200, R201: the rotations of A through the carry: the old CF enters, the bit shifted out goes to CF and its inverse to SF, ZF
is the new A's zero detect; one byte and one cycle each, on any device; and `RORC` undoes `ROLC` on A and CF. -/
def Obligations.Rotations : Prop :=
  (∀ d : Device, encode d .rolcA = some [0x05] ∧ encode d .rorcA = some [0x07]) ∧
  Instr.cycles .rolcA = 1 ∧ Instr.cycles .rorcA = 1 ∧
  ∀ s : State,
    (∃ t, exec .rolcA s = .next t ∧ t.a.toNat + 16 * t.cf.toNat = 2 * s.a.toNat + s.cf.toNat ∧
      t = { s with a := t.a, cf := t.cf, zf := decide (t.a = 0), sf := !t.cf, pc := s.npc 1 } ∧
      ∃ u, exec .rorcA t = .next u ∧ u.a = s.a ∧ u.cf = s.cf) ∧
    (∃ t, exec .rorcA s = .next t ∧ 2 * t.a.toNat + t.cf.toNat = s.a.toNat + 16 * s.cf.toNat ∧
      t = { s with a := t.a, cf := t.cf, zf := decide (t.a = 0), sf := !t.cf, pc := s.npc 1 })

/-! ### Bits -/

/-- 45_bit_manipulation.md R210, R211, R214, R215: clearing and setting bit b of a data-memory word: the other three bits are kept. -/
def Obligations.MemoryBits : Prop :=
  ∀ (s : State) (b : BitVec 2), Memory.wf s.ram →
    (s.ramFault s.eaHL = none →
      (∃ v : Nibble, (∀ j : Nat, j < 4 → v.getLsbD j = (decide (j ≠ b.toNat) && (s.readRam s.eaHL).getLsbD j)) ∧
        StoresWord (.clrAtHLB b) s s.eaHL v true 1) ∧
      (∃ v : Nibble, (∀ j : Nat, j < 4 → v.getLsbD j = (decide (j = b.toNat) || (s.readRam s.eaHL).getLsbD j)) ∧
        StoresWord (.setAtHLB b) s s.eaHL v true 1)) ∧
    (∀ y : Nibble, s.ramFault (eaY y) = none →
      (∃ v : Nibble, (∀ j : Nat, j < 4 → v.getLsbD j = (decide (j ≠ b.toNat) && (s.readRam (eaY y)).getLsbD j)) ∧
        StoresWord (.clrYB y b) s (eaY y) v true 2) ∧
      (∃ v : Nibble, (∀ j : Nat, j < 4 → v.getLsbD j = (decide (j = b.toNat) || (s.readRam (eaY y)).getLsbD j)) ∧
        StoresWord (.setYB y b) s (eaY y) v true 2))

/-- R212, R213, R216, R217, 20_memory.md R63: clearing and setting a bit of a port's latch, named directly or by L (port 4 + L[3:2], bit
L[1:0]): the other three bits are written back unchanged. -/
def Obligations.PortBits : Prop :=
  ∀ s : State,
    (∀ (p : Nibble) (b : BitVec 2), s.portFault (portLow p) = none →
      (∃ v : Nibble, (∀ j : Nat, j < 4 → v.getLsbD j = (decide (j ≠ b.toNat) && (s.latchOf (portLow p)).getLsbD j)) ∧
        WritesPort (.clrPB p b) s (portLow p) v 2) ∧
      (∃ v : Nibble, (∀ j : Nat, j < 4 → v.getLsbD j = (decide (j = b.toNat) || (s.latchOf (portLow p)).getLsbD j)) ∧
        WritesPort (.setPB p b) s (portLow p) v 2)) ∧
    (∀ p : BitVec 5, p.toNat = 4 + s.l.toNat / 4 → s.portFault p = none →
      (∃ v : Nibble, (∀ j : Nat, j < 4 → v.getLsbD j = (decide (j ≠ s.l.toNat % 4) && (s.latchOf p).getLsbD j)) ∧
        WritesPort .clrAtL s p v 1) ∧
      (∃ v : Nibble, (∀ j : Nat, j < 4 → v.getLsbD j = (decide (j = s.l.toNat % 4) || (s.latchOf p).getLsbD j)) ∧
        WritesPort .setAtL s p v 1))

/-- R218, R219, R220, R224: `TEST` puts the inverted bit into SF, `TESTP` the bit; nothing else changes. -/
def Obligations.MemoryBitTests : Prop :=
  ∀ (s : State) (b : BitVec 2),
    (s.ramFault s.eaHL = none → SetsSF (.testAtHLB b) s (!(s.readRam s.eaHL).getLsbD b.toNat) 1) ∧
    (∀ y : Nibble, s.ramFault (eaY y) = none →
      SetsSF (.testYB y b) s (!(s.readRam (eaY y)).getLsbD b.toNat) 2 ∧
      SetsSF (.testpYB y b) s ((s.readRam (eaY y)).getLsbD b.toNat) 2) ∧
    SetsSF (.testAB b) s (!s.a.getLsbD b.toNat) 1

/-- R221, R222, R223, 20_memory.md R63: the tests of a port bit read the latch of an output port, and the value the environment supplies, with
its event, of any other. -/
def Obligations.PortBitTests : Prop :=
  ∀ s : State,
    (∀ (p : Nibble) (b : BitVec 2), s.portFault (portLow p) = none →
      (Device.kindOf s.dev (portLow p) = .output →
        SetsSF (.testPB p b) s (!(s.latchOf (portLow p)).getLsbD b.toNat) 2 ∧
        SetsSF (.testpPB p b) s ((s.latchOf (portLow p)).getLsbD b.toNat) 2) ∧
      (Device.kindOf s.dev (portLow p) ≠ .output →
        exec (.testPB p b) s =
          .next { s.drew (portLow p) with sf := !s.pinValue.getLsbD b.toNat, pc := s.npc 2 } ∧
        exec (.testpPB p b) s =
          .next { s.drew (portLow p) with sf := s.pinValue.getLsbD b.toNat, pc := s.npc 2 })) ∧
    (∀ p : BitVec 5, p.toNat = 4 + s.l.toNat / 4 → s.portFault p = none →
      (Device.kindOf s.dev p = .output → SetsSF .testAtL s (!(s.latchOf p).getLsbD (s.l.toNat % 4)) 1) ∧
      (Device.kindOf s.dev p ≠ .output →
        exec .testAtL s = .next { s.drew p with sf := !s.pinValue.getLsbD (s.l.toNat % 4), pc := s.npc 1 }))

/-! ### Flags and DMB -/

/-- 46_flag_and_bank_control.md R230 to R235: the flag instructions: `TEST CF` and `TESTP CF` also leave CF at 0 and at 1; the general-flag ones are
TLCS-47's. -/
def Obligations.FlagInstructions : Prop :=
  ∀ s : State,
    exec .testCF s = .next { s with sf := !s.cf, cf := false, pc := s.npc 1 } ∧
    exec .testpCF s = .next { s with sf := s.cf, cf := true, pc := s.npc 1 } ∧
    SetsSF .testpZF s s.zf 1 ∧
    (s.dev.series = .s47 →
      exec .clrGF s = .next { s with gf := false, sf := true, pc := s.npc 1 } ∧
      exec .setGF s = .next { s with gf := true, sf := true, pc := s.npc 1 } ∧ SetsSF .testpGF s s.gf 1)

/-- R236 to R247, 10_state.md R27: on TLCS-470 the one bit of DMB is cleared, set and tested; on TLCS-470A each of the two bits, with the
other kept. The clause on `TESTP DMB1` rests on a recovered row, whose operation the spec gives by analogy (R247, C9; log 32). -/
def Obligations.BankBits : Prop :=
  ∀ s : State,
    (s.dev.series = .s470 → s.dmbFits →
      SetsDmb .clrDMB s 0 2 ∧ SetsDmb .setDMB s 1 2 ∧ SetsSF .testDMB s (decide (s.dmb = 0)) 2 ∧
      SetsSF .testpDMB s (decide (s.dmb = 1)) 2) ∧
    (s.dev.series = .s470A →
      SetsDmb .clrDMB0 s (BitVec.ofNat 2 (s.dmb.toNat / 2 * 2)) 2 ∧
      SetsDmb .setDMB0 s (BitVec.ofNat 2 (s.dmb.toNat / 2 * 2 + 1)) 2 ∧
      SetsDmb .clrDMB1 s (BitVec.ofNat 2 (s.dmb.toNat % 2)) 3 ∧
      SetsDmb .setDMB1 s (BitVec.ofNat 2 (s.dmb.toNat % 2 + 2)) 3 ∧
      SetsSF .testDMB0 s (decide (s.dmb.toNat % 2 = 0)) 2 ∧ SetsSF .testpDMB0 s (decide (s.dmb.toNat % 2 = 1)) 2 ∧
      SetsSF .testDMB1 s (decide (s.dmb.toNat / 2 = 0)) 3 ∧ SetsSF .testpDMB1 s (decide (s.dmb.toNat / 2 = 1)) 3)

/-- R248 to R252: on TLCS-470A, the moves between DMB and an immediate, A and the word at HL (read, or written, in the bank DMB
selects before the instruction). The clause on `LD DMB, #k` is the spec's inference, not the source's (R248, D21; log 32). -/
def Obligations.BankTransfers : Prop :=
  ∀ s : State, s.dev.series = .s470A →
    (∀ k : BitVec 2, SetsDmb (.ldDMBK k) s k 3) ∧
    (s.ramFault s.eaHL = none → SetsDmb .ldDMBAtHL s (BitVec.ofNat 2 ((s.readRam s.eaHL).toNat % 4)) 3) ∧
    SetsDmb .movADMB s (BitVec.ofNat 2 (s.a.toNat % 4)) 3 ∧
    LoadsA .movDMBA s (BitVec.ofNat 4 s.dmb.toNat) (decide (s.dmb ≠ 0)) 3 ∧
    (Memory.wf s.ram → s.ramFault s.eaHL = none →
      StoresWord .stDMBAtHL s s.eaHL (BitVec.ofNat 4 s.dmb.toNat) (decide (s.dmb ≠ 0)) 3)

/-! ### Branches, calls, returns -/

/-- 47_branch.md R260, R261, R262, R264: a branch is taken if SF is 1 and leaves SF at 1; `BSS` and `BS` replace the low six and the low twelve bits of
the address after the branch, `BSL` gives all fourteen bits. -/
def Obligations.Branches : Prop :=
  ∀ (s : State) (d : BitVec 6) (e : BitVec 12),
    BranchesTo (.bss d) s (BitVec.ofNat 14 ((s.npc 1).toNat / 64 * 64 + d.toNat)) 1 ∧
    BranchesTo (.bs e) s (BitVec.ofNat 14 ((s.npc 2).toNat / 4096 * 4096 + e.toNat)) 2 ∧
    (s.dev.series ≠ .s47 →
      BranchesTo (.bslBank0 e) s (BitVec.ofNat 14 e.toNat) 3 ∧ BranchesTo (.bslBank1 e) s (BitVec.ofNat 14 (4096 + e.toNat)) 3 ∧
      BranchesTo (.bslBank2 e) s (BitVec.ofNat 14 (8192 + e.toNat)) 3 ∧
      BranchesTo (.bslBank3 e) s (BitVec.ofNat 14 (12288 + e.toNat)) 3)

/-- 48_subroutine.md R270, R271, R272, R274: the calls: `CALLS` goes to 8n + 6 (0086H for n = 0), `CALL` to its 11-bit operand; no flag changes. -/
def Obligations.Calls : Prop :=
  ∀ s : State, s.stackFault s.spw = none →
    (∀ n : Nibble, CallsTo (.calls n) s (8 * (if n = 0 then 16 else n.toNat) + 6) 1 ∧
      CallsTo (.callss n) s (8 * (if n = 0 then 16 else n.toNat) + 6) 1) ∧
    (∀ a : BitVec 11, CallsTo (.call a) s a.toNat 2)

/-- 48_subroutine.md R273, 49_interrupt_stk13_cpu.md R286, R274: the returns pop location SPW + 1: pc from it (bit 13 from STK13 where PC has 14 bits);
`RETI` also takes FLAG from it and sets EIF. -/
def Obligations.Returns : Prop :=
  ∀ (s : State) (i : Fin 16), i.val = (s.spw.toNat + 1) % 16 → s.dev.stackUsable.getLsbD i = true →
    (∃ t, exec .ret s = .next t ∧ t.spw.toNat = i.val ∧
      t.pc.toNat = (if s.dev.series = .s47 then (s.stack.get i).pc.toNat % 4096
        else (s.stack.get i).pc.toNat + 8192 * (s.stk13.get i).toNat) ∧
      t = { s with pc := t.pc, spw := t.spw }) ∧
    (∃ t, exec .reti s = .next t ∧ t.spw.toNat = i.val ∧
      t.pc.toNat = (if s.dev.series = .s47 then (s.stack.get i).pc.toNat % 4096
        else (s.stack.get i).pc.toNat + 8192 * (s.stk13.get i).toNat) ∧
      (s.dev.series = .s47 → t.gf = (s.stack.get i).flag.gf) ∧ (s.dev.series ≠ .s47 → t.gf = s.gf) ∧
      t = { s with
        pc := t.pc, spw := t.spw, gf := t.gf, eif := true
        cf := (s.stack.get i).flag.cf, zf := (s.stack.get i).flag.zf, sf := (s.stack.get i).flag.sf })

/-! ### Interrupt control, STK13, NOP -/

/-- 49_interrupt_stk13_cpu.md R281 to R285: the interrupt-latch instructions: EIF, and each latch bit kept exactly where the mask has a 1. -/
def Obligations.InterruptControlInstructions : Prop :=
  ∀ (s : State) (r : BitVec 6),
    (∃ t, exec (.eiclr r) s = .next t ∧ (∀ j : Fin 6, t.il.getLsbD j = (s.il.getLsbD j && r.getLsbD j)) ∧
      t = { s with eif := true, il := t.il, sf := true, pc := s.npc 2 }) ∧
    (∃ t, exec (.diclr r) s = .next t ∧ (∀ j : Fin 6, t.il.getLsbD j = (s.il.getLsbD j && r.getLsbD j)) ∧
      t = { s with eif := false, il := t.il, sf := true, pc := s.npc 2 }) ∧
    (∃ t, exec (.clrIL r) s = .next t ∧ (∀ j : Fin 6, t.il.getLsbD j = (s.il.getLsbD j && r.getLsbD j)) ∧
      t = { s with il := t.il, sf := true, pc := s.npc 2 }) ∧
    exec .ei s = .next { s with eif := true, sf := true, pc := s.npc 2 } ∧
    exec .di s = .next { s with eif := false, sf := true, pc := s.npc 2 }

/-- R290 to R293, 10_state.md R32, R33: the STK13 instructions of TLCS-470A: SPW13 takes A and that bit of STK13 is cleared or set; SPW13 takes
A; A takes the bit SPW13 selects. No other bit, and not SPW, changes. -/
def Obligations.Stk13Instructions : Prop :=
  ∀ s : State, s.dev.series = .s470A →
    (∃ t, exec .clrSTK13 s = .next t ∧ t.stk13.get s.a.toFin = false ∧
      (∀ j : Fin 16, j ≠ s.a.toFin → t.stk13.get j = s.stk13.get j) ∧
      t = { s with spw13 := s.a, stk13 := t.stk13, sf := true, pc := s.npc 3 }) ∧
    (∃ t, exec .setSTK13 s = .next t ∧ t.stk13.get s.a.toFin = true ∧
      (∀ j : Fin 16, j ≠ s.a.toFin → t.stk13.get j = s.stk13.get j) ∧
      t = { s with spw13 := s.a, stk13 := t.stk13, sf := true, pc := s.npc 3 }) ∧
    exec .movASPW13 s = .next { s with spw13 := s.a, sf := true, pc := s.npc 2 } ∧
    LoadsA .movSTK13A s (BitVec.ofNat 4 (s.stk13.get s.spw13.toFin).toNat) true 2

/-- R295: `NOP` is the byte 00H, takes one cycle, and does nothing but go on to the next instruction. -/
def Obligations.NopRule : Prop :=
  (∀ d : Device, encode d .nop = some [0x00] ∧ decode d [0x00] = .instr .nop []) ∧ Instr.cycles .nop = 1 ∧
  ∀ s : State, ∃ t, exec .nop s = .next t ∧ t.pc.toNat = (s.pc.toNat + 1) % 2 ^ s.dev.series.pcw ∧ t = { s with pc := t.pc }
end

