-- ==== Sys2Proof/Laws/Memory.lean ====
section
/-! SUPPORT. The laws of the two memories: read after write, the canonical form, and that equal reads mean equal memories. -/

namespace Sys2Proof.Machine

variable {w : Nat}

@[simp] theorem Memory.read_nil (a : Nat) : Memory.read ([] : Memory w) a = 0 := rfl

/-- An address below every entry reads as an unlisted one. -/
theorem Memory.read_of_lt {m : Memory w} {a : Nat} (h : ∀ c ∈ m, a < c.1) : Memory.read m a = 0 := by
  induction m with
  | nil => rfl
  | cons c r ih =>
    obtain ⟨k, x⟩ := c
    have hk : a < k := h (k, x) (by simp)
    have hne : ¬ k = a := by omega
    simp only [Memory.read, hne, if_false]
    exact ih fun c hc => h c (by simp [hc])

theorem Memory.wf_nil : Memory.wf ([] : Memory w) := by simp [Memory.wf]

/-- The canonical form, entry by entry. -/
theorem Memory.wf_cons {k : Nat} {x : BitVec w} {r : Memory w} :
    Memory.wf ((k, x) :: r) ↔ (∀ c ∈ r, k < c.1) ∧ x ≠ 0 ∧ Memory.wf r := by
  simp only [Memory.wf, List.map_cons, List.pairwise_cons, List.mem_map, forall_exists_index, and_imp,
    forall_apply_eq_imp_iff₂, List.mem_cons, forall_eq_or_imp]
  tauto

/-- Every entry after a write is the written one or was there before. -/
theorem Memory.mem_write {m : Memory w} {a : Nat} {v : BitVec w} {c : Nat × BitVec w} (h : c ∈ Memory.write m a v) :
    c = (a, v) ∨ c ∈ m := by
  induction m with
  | nil =>
    simp only [Memory.write] at h
    split at h <;> simp_all
  | cons d r ih =>
    obtain ⟨k, x⟩ := d
    simp only [Memory.write] at h
    split at h
    · split at h <;> simp_all
    · split at h
      · split at h <;> (simp_all; try tauto)
      · simp only [List.mem_cons] at h ⊢
        rcases h with h | h
        · exact .inr (.inl h)
        · exact (ih h).imp_right .inr

/-- A write keeps the canonical form. -/
theorem Memory.write_wf {m : Memory w} (h : Memory.wf m) (a : Nat) (v : BitVec w) : Memory.wf (Memory.write m a v) := by
  induction m with
  | nil =>
    simp only [Memory.write]
    split
    · exact Memory.wf_nil
    · rw [Memory.wf_cons]
      exact ⟨by simp, ‹_›, Memory.wf_nil⟩
  | cons c r ih =>
    obtain ⟨k, x⟩ := c
    obtain ⟨hlt, hx, hr⟩ := Memory.wf_cons.1 h
    simp only [Memory.write]
    split
    · split
      · exact h
      · refine Memory.wf_cons.2 ⟨?_, ‹_›, h⟩
        simp only [List.mem_cons, forall_eq_or_imp]
        exact ⟨‹_›, fun c hc => by have := hlt c hc; omega⟩
    · split
      · split
        · exact hr
        · exact Memory.wf_cons.2 ⟨fun c hc => by have := hlt c hc; omega, ‹_›, hr⟩
      · refine Memory.wf_cons.2 ⟨fun c hc => ?_, hx, ih hr⟩
        rcases Memory.mem_write hc with rfl | hc
        · show k < a
          omega
        · exact hlt c hc

/-- Reading what was written. -/
theorem Memory.read_write_same {m : Memory w} (h : Memory.wf m) (a : Nat) (v : BitVec w) :
    Memory.read (Memory.write m a v) a = v := by
  induction m with
  | nil =>
    simp only [Memory.write]
    split
    · simp_all
    · simp [Memory.read]
  | cons c r ih =>
    obtain ⟨k, x⟩ := c
    obtain ⟨hlt, hx, hr⟩ := Memory.wf_cons.1 h
    simp only [Memory.write]
    split
    · split
      · rw [Memory.read_of_lt, ‹v = 0›]
        simp only [List.mem_cons, forall_eq_or_imp]
        exact ⟨‹_›, fun c hc => by have := hlt c hc; omega⟩
      · simp [Memory.read]
    · split
      · split
        · rw [Memory.read_of_lt, ‹v = 0›]
          exact fun c hc => by have := hlt c hc; omega
        · simp [Memory.read]
      · have hne : ¬ k = a := by omega
        simp only [Memory.read, hne, if_false]
        exact ih hr

/-- A write leaves every other address alone. -/
theorem Memory.read_write_other (m : Memory w) {a b : Nat} (v : BitVec w) (h : b ≠ a) :
    Memory.read (Memory.write m a v) b = Memory.read m b := by
  have h' : ¬ a = b := fun e => h e.symm
  induction m with
  | nil =>
    simp only [Memory.write]
    split <;> simp [Memory.read, h']
  | cons c r ih =>
    obtain ⟨k, x⟩ := c
    simp only [Memory.write]
    split
    · split <;> simp [Memory.read, h']
    · split
      · have hk : ¬ k = b := by omega
        split <;> simp [Memory.read, h', hk]
      · simp only [Memory.read, ih]

/-- In canonical form, memories that read alike are equal. -/
theorem Memory.ext_of_read {m n : Memory w} (hm : Memory.wf m) (hn : Memory.wf n)
    (h : ∀ a, Memory.read m a = Memory.read n a) : m = n := by
  induction m generalizing n with
  | nil =>
    cases n with
    | nil => rfl
    | cons c r =>
      obtain ⟨k, x⟩ := c
      have := h k
      simp [Memory.read] at this
      exact absurd this.symm (Memory.wf_cons.1 hn).2.1
  | cons c r ih =>
    obtain ⟨k, x⟩ := c
    obtain ⟨hlt, hx, hr⟩ := Memory.wf_cons.1 hm
    cases n with
    | nil =>
      have := h k
      simp [Memory.read] at this
      exact absurd this hx
    | cons d q =>
      obtain ⟨j, y⟩ := d
      obtain ⟨hlt', hy, hq⟩ := Memory.wf_cons.1 hn
      have hk : k = j := by
        rcases Nat.lt_trichotomy k j with hkj | hkj | hkj
        · have e := h k
          rw [Memory.read_of_lt (m := (j, y) :: q)] at e
          · simp [Memory.read] at e
            exact absurd e hx
          · simp only [List.mem_cons, forall_eq_or_imp]
            exact ⟨hkj, fun c hc => by have := hlt' c hc; omega⟩
        · exact hkj
        · have e := h j
          rw [Memory.read_of_lt (m := (k, x) :: r)] at e
          · simp [Memory.read] at e
            exact absurd e.symm hy
          · simp only [List.mem_cons, forall_eq_or_imp]
            exact ⟨hkj, fun c hc => by have := hlt c hc; omega⟩
      subst hk
      have hxy : x = y := by simpa [Memory.read] using h k
      subst hxy
      rw [ih hr hq]
      intro a
      by_cases ha : k = a
      · subst ha
        rw [Memory.read_of_lt hlt, Memory.read_of_lt hlt']
      · simpa [Memory.read, ha] using h a

/-! ### Data memory by address -/

/-- Each data-memory word has its own key. -/
theorem DataAddr.key_injective {e f : DataAddr} (h : e.key = f.key) : e = f := by
  obtain ⟨b, a⟩ := e
  obtain ⟨c, d⟩ := f
  simp only [DataAddr.key] at h
  have ha := a.isLt
  have hd := d.isLt
  have h1 : b.toNat = c.toNat := by omega
  have h2 : a.toNat = d.toNat := by omega
  rw [BitVec.eq_of_toNat_eq h1, BitVec.eq_of_toNat_eq h2]

/-- Reading back a data-memory word (20_memory.md R55, R56). -/
theorem State.readRam_writeRam_same {s : State} (h : Memory.wf s.ram) (ea : DataAddr) (v : Nibble) :
    (s.writeRam ea v).readRam ea = v := Memory.read_write_same h _ _

/-- A store leaves every other word alone. -/
theorem State.readRam_writeRam_other (s : State) {ea e : DataAddr} (v : Nibble) (h : e ≠ ea) :
    (s.writeRam ea v).readRam e = s.readRam e :=
  Memory.read_write_other _ _ fun k => h (DataAddr.key_injective k)

/-- A store keeps the canonical form. -/
theorem State.writeRam_wf {s : State} (h : Memory.wf s.ram) (ea : DataAddr) (v : Nibble) : Memory.wf (s.writeRam ea v).ram :=
  Memory.write_wf h _ _

end Sys2Proof.Machine
end

