-- ==== Sys2Proof/Laws/State.lean ====
section
/-! SUPPORT. What each named update of the state writes and keeps: one lemma per field per update, true by rfl. -/

namespace Sys2Proof.Machine


/-! ### `advance` -/

@[simp] theorem State.advance_dev (s : State) (n : Nat) : (s.advance n).dev = s.dev := rfl
@[simp] theorem State.advance_rom (s : State) (n : Nat) : (s.advance n).rom = s.rom := rfl
@[simp] theorem State.advance_ram (s : State) (n : Nat) : (s.advance n).ram = s.ram := rfl
@[simp] theorem State.advance_pc (s : State) (n : Nat) : (s.advance n).pc = s.npc n := rfl
@[simp] theorem State.advance_a (s : State) (n : Nat) : (s.advance n).a = s.a := rfl
@[simp] theorem State.advance_h (s : State) (n : Nat) : (s.advance n).h = s.h := rfl
@[simp] theorem State.advance_l (s : State) (n : Nat) : (s.advance n).l = s.l := rfl
@[simp] theorem State.advance_cf (s : State) (n : Nat) : (s.advance n).cf = s.cf := rfl
@[simp] theorem State.advance_zf (s : State) (n : Nat) : (s.advance n).zf = s.zf := rfl
@[simp] theorem State.advance_sf (s : State) (n : Nat) : (s.advance n).sf = s.sf := rfl
@[simp] theorem State.advance_gf (s : State) (n : Nat) : (s.advance n).gf = s.gf := rfl
@[simp] theorem State.advance_dmb (s : State) (n : Nat) : (s.advance n).dmb = s.dmb := rfl
@[simp] theorem State.advance_dtb (s : State) (n : Nat) : (s.advance n).dtb = s.dtb := rfl
@[simp] theorem State.advance_dc (s : State) (n : Nat) : (s.advance n).dc = s.dc := rfl
@[simp] theorem State.advance_spw (s : State) (n : Nat) : (s.advance n).spw = s.spw := rfl
@[simp] theorem State.advance_stack (s : State) (n : Nat) : (s.advance n).stack = s.stack := rfl
@[simp] theorem State.advance_stk13 (s : State) (n : Nat) : (s.advance n).stk13 = s.stk13 := rfl
@[simp] theorem State.advance_spw13 (s : State) (n : Nat) : (s.advance n).spw13 = s.spw13 := rfl
@[simp] theorem State.advance_eir (s : State) (n : Nat) : (s.advance n).eir = s.eir := rfl
@[simp] theorem State.advance_eif (s : State) (n : Nat) : (s.advance n).eif = s.eif := rfl
@[simp] theorem State.advance_il (s : State) (n : Nat) : (s.advance n).il = s.il := rfl
@[simp] theorem State.advance_latch (s : State) (n : Nat) : (s.advance n).latch = s.latch := rfl
@[simp] theorem State.advance_schedule (s : State) (n : Nat) : (s.advance n).schedule = s.schedule := rfl
@[simp] theorem State.advance_pins (s : State) (n : Nat) : (s.advance n).pins = s.pins := rfl
@[simp] theorem State.advance_events (s : State) (n : Nat) : (s.advance n).events = s.events := rfl
@[simp] theorem State.advance_freeCount (s : State) (n : Nat) : (s.advance n).freeCount = s.freeCount := rfl
@[simp] theorem State.advance_readRam (s : State) (n : Nat) (ea : DataAddr) : (s.advance n).readRam ea = s.readRam ea := rfl
@[simp] theorem State.advance_latchOf (s : State) (n : Nat) (q : BitVec 5) : (s.advance n).latchOf q = s.latchOf q := rfl

/-! ### `jump` -/

@[simp] theorem State.jump_dev (s : State) (t : CodeAddr) : (s.jump t).dev = s.dev := rfl
@[simp] theorem State.jump_rom (s : State) (t : CodeAddr) : (s.jump t).rom = s.rom := rfl
@[simp] theorem State.jump_ram (s : State) (t : CodeAddr) : (s.jump t).ram = s.ram := rfl
@[simp] theorem State.jump_pc (s : State) (t : CodeAddr) : (s.jump t).pc = wrapPc s.dev.series t := rfl
@[simp] theorem State.jump_a (s : State) (t : CodeAddr) : (s.jump t).a = s.a := rfl
@[simp] theorem State.jump_h (s : State) (t : CodeAddr) : (s.jump t).h = s.h := rfl
@[simp] theorem State.jump_l (s : State) (t : CodeAddr) : (s.jump t).l = s.l := rfl
@[simp] theorem State.jump_cf (s : State) (t : CodeAddr) : (s.jump t).cf = s.cf := rfl
@[simp] theorem State.jump_zf (s : State) (t : CodeAddr) : (s.jump t).zf = s.zf := rfl
@[simp] theorem State.jump_sf (s : State) (t : CodeAddr) : (s.jump t).sf = s.sf := rfl
@[simp] theorem State.jump_gf (s : State) (t : CodeAddr) : (s.jump t).gf = s.gf := rfl
@[simp] theorem State.jump_dmb (s : State) (t : CodeAddr) : (s.jump t).dmb = s.dmb := rfl
@[simp] theorem State.jump_dtb (s : State) (t : CodeAddr) : (s.jump t).dtb = s.dtb := rfl
@[simp] theorem State.jump_dc (s : State) (t : CodeAddr) : (s.jump t).dc = s.dc := rfl
@[simp] theorem State.jump_spw (s : State) (t : CodeAddr) : (s.jump t).spw = s.spw := rfl
@[simp] theorem State.jump_stack (s : State) (t : CodeAddr) : (s.jump t).stack = s.stack := rfl
@[simp] theorem State.jump_stk13 (s : State) (t : CodeAddr) : (s.jump t).stk13 = s.stk13 := rfl
@[simp] theorem State.jump_spw13 (s : State) (t : CodeAddr) : (s.jump t).spw13 = s.spw13 := rfl
@[simp] theorem State.jump_eir (s : State) (t : CodeAddr) : (s.jump t).eir = s.eir := rfl
@[simp] theorem State.jump_eif (s : State) (t : CodeAddr) : (s.jump t).eif = s.eif := rfl
@[simp] theorem State.jump_il (s : State) (t : CodeAddr) : (s.jump t).il = s.il := rfl
@[simp] theorem State.jump_latch (s : State) (t : CodeAddr) : (s.jump t).latch = s.latch := rfl
@[simp] theorem State.jump_schedule (s : State) (t : CodeAddr) : (s.jump t).schedule = s.schedule := rfl
@[simp] theorem State.jump_pins (s : State) (t : CodeAddr) : (s.jump t).pins = s.pins := rfl
@[simp] theorem State.jump_events (s : State) (t : CodeAddr) : (s.jump t).events = s.events := rfl
@[simp] theorem State.jump_freeCount (s : State) (t : CodeAddr) : (s.jump t).freeCount = s.freeCount := rfl
@[simp] theorem State.jump_readRam (s : State) (t : CodeAddr) (ea : DataAddr) : (s.jump t).readRam ea = s.readRam ea := rfl
@[simp] theorem State.jump_latchOf (s : State) (t : CodeAddr) (q : BitVec 5) : (s.jump t).latchOf q = s.latchOf q := rfl

/-! ### `putA` -/

@[simp] theorem State.putA_dev (s : State) (v : Nibble) (f : Bool) : (s.putA v f).dev = s.dev := rfl
@[simp] theorem State.putA_rom (s : State) (v : Nibble) (f : Bool) : (s.putA v f).rom = s.rom := rfl
@[simp] theorem State.putA_ram (s : State) (v : Nibble) (f : Bool) : (s.putA v f).ram = s.ram := rfl
@[simp] theorem State.putA_pc (s : State) (v : Nibble) (f : Bool) : (s.putA v f).pc = s.pc := rfl
@[simp] theorem State.putA_a (s : State) (v : Nibble) (f : Bool) : (s.putA v f).a = v := rfl
@[simp] theorem State.putA_h (s : State) (v : Nibble) (f : Bool) : (s.putA v f).h = s.h := rfl
@[simp] theorem State.putA_l (s : State) (v : Nibble) (f : Bool) : (s.putA v f).l = s.l := rfl
@[simp] theorem State.putA_cf (s : State) (v : Nibble) (f : Bool) : (s.putA v f).cf = s.cf := rfl
@[simp] theorem State.putA_zf (s : State) (v : Nibble) (f : Bool) : (s.putA v f).zf = isZero v := rfl
@[simp] theorem State.putA_sf (s : State) (v : Nibble) (f : Bool) : (s.putA v f).sf = f := rfl
@[simp] theorem State.putA_gf (s : State) (v : Nibble) (f : Bool) : (s.putA v f).gf = s.gf := rfl
@[simp] theorem State.putA_dmb (s : State) (v : Nibble) (f : Bool) : (s.putA v f).dmb = s.dmb := rfl
@[simp] theorem State.putA_dtb (s : State) (v : Nibble) (f : Bool) : (s.putA v f).dtb = s.dtb := rfl
@[simp] theorem State.putA_dc (s : State) (v : Nibble) (f : Bool) : (s.putA v f).dc = s.dc := rfl
@[simp] theorem State.putA_spw (s : State) (v : Nibble) (f : Bool) : (s.putA v f).spw = s.spw := rfl
@[simp] theorem State.putA_stack (s : State) (v : Nibble) (f : Bool) : (s.putA v f).stack = s.stack := rfl
@[simp] theorem State.putA_stk13 (s : State) (v : Nibble) (f : Bool) : (s.putA v f).stk13 = s.stk13 := rfl
@[simp] theorem State.putA_spw13 (s : State) (v : Nibble) (f : Bool) : (s.putA v f).spw13 = s.spw13 := rfl
@[simp] theorem State.putA_eir (s : State) (v : Nibble) (f : Bool) : (s.putA v f).eir = s.eir := rfl
@[simp] theorem State.putA_eif (s : State) (v : Nibble) (f : Bool) : (s.putA v f).eif = s.eif := rfl
@[simp] theorem State.putA_il (s : State) (v : Nibble) (f : Bool) : (s.putA v f).il = s.il := rfl
@[simp] theorem State.putA_latch (s : State) (v : Nibble) (f : Bool) : (s.putA v f).latch = s.latch := rfl
@[simp] theorem State.putA_schedule (s : State) (v : Nibble) (f : Bool) : (s.putA v f).schedule = s.schedule := rfl
@[simp] theorem State.putA_pins (s : State) (v : Nibble) (f : Bool) : (s.putA v f).pins = s.pins := rfl
@[simp] theorem State.putA_events (s : State) (v : Nibble) (f : Bool) : (s.putA v f).events = s.events := rfl
@[simp] theorem State.putA_freeCount (s : State) (v : Nibble) (f : Bool) : (s.putA v f).freeCount = s.freeCount := rfl
@[simp] theorem State.putA_readRam (s : State) (v : Nibble) (f : Bool) (ea : DataAddr) : (s.putA v f).readRam ea = s.readRam ea := rfl
@[simp] theorem State.putA_npc (s : State) (v : Nibble) (f : Bool) (k : Nat) : (s.putA v f).npc k = s.npc k := rfl
@[simp] theorem State.putA_latchOf (s : State) (v : Nibble) (f : Bool) (q : BitVec 5) : (s.putA v f).latchOf q = s.latchOf q := rfl

/-! ### `setSF` -/

@[simp] theorem State.setSF_dev (s : State) (f : Bool) : (s.setSF f).dev = s.dev := rfl
@[simp] theorem State.setSF_rom (s : State) (f : Bool) : (s.setSF f).rom = s.rom := rfl
@[simp] theorem State.setSF_ram (s : State) (f : Bool) : (s.setSF f).ram = s.ram := rfl
@[simp] theorem State.setSF_pc (s : State) (f : Bool) : (s.setSF f).pc = s.pc := rfl
@[simp] theorem State.setSF_a (s : State) (f : Bool) : (s.setSF f).a = s.a := rfl
@[simp] theorem State.setSF_h (s : State) (f : Bool) : (s.setSF f).h = s.h := rfl
@[simp] theorem State.setSF_l (s : State) (f : Bool) : (s.setSF f).l = s.l := rfl
@[simp] theorem State.setSF_cf (s : State) (f : Bool) : (s.setSF f).cf = s.cf := rfl
@[simp] theorem State.setSF_zf (s : State) (f : Bool) : (s.setSF f).zf = s.zf := rfl
@[simp] theorem State.setSF_sf (s : State) (f : Bool) : (s.setSF f).sf = f := rfl
@[simp] theorem State.setSF_gf (s : State) (f : Bool) : (s.setSF f).gf = s.gf := rfl
@[simp] theorem State.setSF_dmb (s : State) (f : Bool) : (s.setSF f).dmb = s.dmb := rfl
@[simp] theorem State.setSF_dtb (s : State) (f : Bool) : (s.setSF f).dtb = s.dtb := rfl
@[simp] theorem State.setSF_dc (s : State) (f : Bool) : (s.setSF f).dc = s.dc := rfl
@[simp] theorem State.setSF_spw (s : State) (f : Bool) : (s.setSF f).spw = s.spw := rfl
@[simp] theorem State.setSF_stack (s : State) (f : Bool) : (s.setSF f).stack = s.stack := rfl
@[simp] theorem State.setSF_stk13 (s : State) (f : Bool) : (s.setSF f).stk13 = s.stk13 := rfl
@[simp] theorem State.setSF_spw13 (s : State) (f : Bool) : (s.setSF f).spw13 = s.spw13 := rfl
@[simp] theorem State.setSF_eir (s : State) (f : Bool) : (s.setSF f).eir = s.eir := rfl
@[simp] theorem State.setSF_eif (s : State) (f : Bool) : (s.setSF f).eif = s.eif := rfl
@[simp] theorem State.setSF_il (s : State) (f : Bool) : (s.setSF f).il = s.il := rfl
@[simp] theorem State.setSF_latch (s : State) (f : Bool) : (s.setSF f).latch = s.latch := rfl
@[simp] theorem State.setSF_schedule (s : State) (f : Bool) : (s.setSF f).schedule = s.schedule := rfl
@[simp] theorem State.setSF_pins (s : State) (f : Bool) : (s.setSF f).pins = s.pins := rfl
@[simp] theorem State.setSF_events (s : State) (f : Bool) : (s.setSF f).events = s.events := rfl
@[simp] theorem State.setSF_freeCount (s : State) (f : Bool) : (s.setSF f).freeCount = s.freeCount := rfl
@[simp] theorem State.setSF_readRam (s : State) (f : Bool) (ea : DataAddr) : (s.setSF f).readRam ea = s.readRam ea := rfl
@[simp] theorem State.setSF_npc (s : State) (f : Bool) (k : Nat) : (s.setSF f).npc k = s.npc k := rfl
@[simp] theorem State.setSF_latchOf (s : State) (f : Bool) (q : BitVec 5) : (s.setSF f).latchOf q = s.latchOf q := rfl

/-! ### `setZS` -/

@[simp] theorem State.setZS_dev (s : State) (z f : Bool) : (s.setZS z f).dev = s.dev := rfl
@[simp] theorem State.setZS_rom (s : State) (z f : Bool) : (s.setZS z f).rom = s.rom := rfl
@[simp] theorem State.setZS_ram (s : State) (z f : Bool) : (s.setZS z f).ram = s.ram := rfl
@[simp] theorem State.setZS_pc (s : State) (z f : Bool) : (s.setZS z f).pc = s.pc := rfl
@[simp] theorem State.setZS_a (s : State) (z f : Bool) : (s.setZS z f).a = s.a := rfl
@[simp] theorem State.setZS_h (s : State) (z f : Bool) : (s.setZS z f).h = s.h := rfl
@[simp] theorem State.setZS_l (s : State) (z f : Bool) : (s.setZS z f).l = s.l := rfl
@[simp] theorem State.setZS_cf (s : State) (z f : Bool) : (s.setZS z f).cf = s.cf := rfl
@[simp] theorem State.setZS_zf (s : State) (z f : Bool) : (s.setZS z f).zf = z := rfl
@[simp] theorem State.setZS_sf (s : State) (z f : Bool) : (s.setZS z f).sf = f := rfl
@[simp] theorem State.setZS_gf (s : State) (z f : Bool) : (s.setZS z f).gf = s.gf := rfl
@[simp] theorem State.setZS_dmb (s : State) (z f : Bool) : (s.setZS z f).dmb = s.dmb := rfl
@[simp] theorem State.setZS_dtb (s : State) (z f : Bool) : (s.setZS z f).dtb = s.dtb := rfl
@[simp] theorem State.setZS_dc (s : State) (z f : Bool) : (s.setZS z f).dc = s.dc := rfl
@[simp] theorem State.setZS_spw (s : State) (z f : Bool) : (s.setZS z f).spw = s.spw := rfl
@[simp] theorem State.setZS_stack (s : State) (z f : Bool) : (s.setZS z f).stack = s.stack := rfl
@[simp] theorem State.setZS_stk13 (s : State) (z f : Bool) : (s.setZS z f).stk13 = s.stk13 := rfl
@[simp] theorem State.setZS_spw13 (s : State) (z f : Bool) : (s.setZS z f).spw13 = s.spw13 := rfl
@[simp] theorem State.setZS_eir (s : State) (z f : Bool) : (s.setZS z f).eir = s.eir := rfl
@[simp] theorem State.setZS_eif (s : State) (z f : Bool) : (s.setZS z f).eif = s.eif := rfl
@[simp] theorem State.setZS_il (s : State) (z f : Bool) : (s.setZS z f).il = s.il := rfl
@[simp] theorem State.setZS_latch (s : State) (z f : Bool) : (s.setZS z f).latch = s.latch := rfl
@[simp] theorem State.setZS_schedule (s : State) (z f : Bool) : (s.setZS z f).schedule = s.schedule := rfl
@[simp] theorem State.setZS_pins (s : State) (z f : Bool) : (s.setZS z f).pins = s.pins := rfl
@[simp] theorem State.setZS_events (s : State) (z f : Bool) : (s.setZS z f).events = s.events := rfl
@[simp] theorem State.setZS_freeCount (s : State) (z f : Bool) : (s.setZS z f).freeCount = s.freeCount := rfl
@[simp] theorem State.setZS_readRam (s : State) (z f : Bool) (ea : DataAddr) : (s.setZS z f).readRam ea = s.readRam ea := rfl
@[simp] theorem State.setZS_npc (s : State) (z f : Bool) (k : Nat) : (s.setZS z f).npc k = s.npc k := rfl
@[simp] theorem State.setZS_latchOf (s : State) (z f : Bool) (q : BitVec 5) : (s.setZS z f).latchOf q = s.latchOf q := rfl

/-! ### `setCompare` -/

@[simp] theorem State.setCompare_dev (s : State) (r : Nibble × Bool) : (s.setCompare r).dev = s.dev := rfl
@[simp] theorem State.setCompare_rom (s : State) (r : Nibble × Bool) : (s.setCompare r).rom = s.rom := rfl
@[simp] theorem State.setCompare_ram (s : State) (r : Nibble × Bool) : (s.setCompare r).ram = s.ram := rfl
@[simp] theorem State.setCompare_pc (s : State) (r : Nibble × Bool) : (s.setCompare r).pc = s.pc := rfl
@[simp] theorem State.setCompare_a (s : State) (r : Nibble × Bool) : (s.setCompare r).a = s.a := rfl
@[simp] theorem State.setCompare_h (s : State) (r : Nibble × Bool) : (s.setCompare r).h = s.h := rfl
@[simp] theorem State.setCompare_l (s : State) (r : Nibble × Bool) : (s.setCompare r).l = s.l := rfl
@[simp] theorem State.setCompare_cf (s : State) (r : Nibble × Bool) : (s.setCompare r).cf = r.2 := rfl
@[simp] theorem State.setCompare_zf (s : State) (r : Nibble × Bool) : (s.setCompare r).zf = isZero r.1 := rfl
@[simp] theorem State.setCompare_sf (s : State) (r : Nibble × Bool) : (s.setCompare r).sf = !isZero r.1 := rfl
@[simp] theorem State.setCompare_gf (s : State) (r : Nibble × Bool) : (s.setCompare r).gf = s.gf := rfl
@[simp] theorem State.setCompare_dmb (s : State) (r : Nibble × Bool) : (s.setCompare r).dmb = s.dmb := rfl
@[simp] theorem State.setCompare_dtb (s : State) (r : Nibble × Bool) : (s.setCompare r).dtb = s.dtb := rfl
@[simp] theorem State.setCompare_dc (s : State) (r : Nibble × Bool) : (s.setCompare r).dc = s.dc := rfl
@[simp] theorem State.setCompare_spw (s : State) (r : Nibble × Bool) : (s.setCompare r).spw = s.spw := rfl
@[simp] theorem State.setCompare_stack (s : State) (r : Nibble × Bool) : (s.setCompare r).stack = s.stack := rfl
@[simp] theorem State.setCompare_stk13 (s : State) (r : Nibble × Bool) : (s.setCompare r).stk13 = s.stk13 := rfl
@[simp] theorem State.setCompare_spw13 (s : State) (r : Nibble × Bool) : (s.setCompare r).spw13 = s.spw13 := rfl
@[simp] theorem State.setCompare_eir (s : State) (r : Nibble × Bool) : (s.setCompare r).eir = s.eir := rfl
@[simp] theorem State.setCompare_eif (s : State) (r : Nibble × Bool) : (s.setCompare r).eif = s.eif := rfl
@[simp] theorem State.setCompare_il (s : State) (r : Nibble × Bool) : (s.setCompare r).il = s.il := rfl
@[simp] theorem State.setCompare_latch (s : State) (r : Nibble × Bool) : (s.setCompare r).latch = s.latch := rfl
@[simp] theorem State.setCompare_schedule (s : State) (r : Nibble × Bool) : (s.setCompare r).schedule = s.schedule := rfl
@[simp] theorem State.setCompare_pins (s : State) (r : Nibble × Bool) : (s.setCompare r).pins = s.pins := rfl
@[simp] theorem State.setCompare_events (s : State) (r : Nibble × Bool) : (s.setCompare r).events = s.events := rfl
@[simp] theorem State.setCompare_freeCount (s : State) (r : Nibble × Bool) : (s.setCompare r).freeCount = s.freeCount := rfl
@[simp] theorem State.setCompare_readRam (s : State) (r : Nibble × Bool) (ea : DataAddr) : (s.setCompare r).readRam ea = s.readRam ea := rfl
@[simp] theorem State.setCompare_npc (s : State) (r : Nibble × Bool) (k : Nat) : (s.setCompare r).npc k = s.npc k := rfl
@[simp] theorem State.setCompare_latchOf (s : State) (r : Nibble × Bool) (q : BitVec 5) : (s.setCompare r).latchOf q = s.latchOf q := rfl

/-! ### `writeRam` -/

@[simp] theorem State.writeRam_dev (s : State) (ea : DataAddr) (v : Nibble) : (s.writeRam ea v).dev = s.dev := rfl
@[simp] theorem State.writeRam_rom (s : State) (ea : DataAddr) (v : Nibble) : (s.writeRam ea v).rom = s.rom := rfl
@[simp] theorem State.writeRam_ram (s : State) (ea : DataAddr) (v : Nibble) : (s.writeRam ea v).ram = Memory.write s.ram ea.key v := rfl
@[simp] theorem State.writeRam_pc (s : State) (ea : DataAddr) (v : Nibble) : (s.writeRam ea v).pc = s.pc := rfl
@[simp] theorem State.writeRam_a (s : State) (ea : DataAddr) (v : Nibble) : (s.writeRam ea v).a = s.a := rfl
@[simp] theorem State.writeRam_h (s : State) (ea : DataAddr) (v : Nibble) : (s.writeRam ea v).h = s.h := rfl
@[simp] theorem State.writeRam_l (s : State) (ea : DataAddr) (v : Nibble) : (s.writeRam ea v).l = s.l := rfl
@[simp] theorem State.writeRam_cf (s : State) (ea : DataAddr) (v : Nibble) : (s.writeRam ea v).cf = s.cf := rfl
@[simp] theorem State.writeRam_zf (s : State) (ea : DataAddr) (v : Nibble) : (s.writeRam ea v).zf = s.zf := rfl
@[simp] theorem State.writeRam_sf (s : State) (ea : DataAddr) (v : Nibble) : (s.writeRam ea v).sf = s.sf := rfl
@[simp] theorem State.writeRam_gf (s : State) (ea : DataAddr) (v : Nibble) : (s.writeRam ea v).gf = s.gf := rfl
@[simp] theorem State.writeRam_dmb (s : State) (ea : DataAddr) (v : Nibble) : (s.writeRam ea v).dmb = s.dmb := rfl
@[simp] theorem State.writeRam_dtb (s : State) (ea : DataAddr) (v : Nibble) : (s.writeRam ea v).dtb = s.dtb := rfl
@[simp] theorem State.writeRam_dc (s : State) (ea : DataAddr) (v : Nibble) : (s.writeRam ea v).dc = s.dc := rfl
@[simp] theorem State.writeRam_spw (s : State) (ea : DataAddr) (v : Nibble) : (s.writeRam ea v).spw = s.spw := rfl
@[simp] theorem State.writeRam_stack (s : State) (ea : DataAddr) (v : Nibble) : (s.writeRam ea v).stack = s.stack := rfl
@[simp] theorem State.writeRam_stk13 (s : State) (ea : DataAddr) (v : Nibble) : (s.writeRam ea v).stk13 = s.stk13 := rfl
@[simp] theorem State.writeRam_spw13 (s : State) (ea : DataAddr) (v : Nibble) : (s.writeRam ea v).spw13 = s.spw13 := rfl
@[simp] theorem State.writeRam_eir (s : State) (ea : DataAddr) (v : Nibble) : (s.writeRam ea v).eir = s.eir := rfl
@[simp] theorem State.writeRam_eif (s : State) (ea : DataAddr) (v : Nibble) : (s.writeRam ea v).eif = s.eif := rfl
@[simp] theorem State.writeRam_il (s : State) (ea : DataAddr) (v : Nibble) : (s.writeRam ea v).il = s.il := rfl
@[simp] theorem State.writeRam_latch (s : State) (ea : DataAddr) (v : Nibble) : (s.writeRam ea v).latch = s.latch := rfl
@[simp] theorem State.writeRam_schedule (s : State) (ea : DataAddr) (v : Nibble) : (s.writeRam ea v).schedule = s.schedule := rfl
@[simp] theorem State.writeRam_pins (s : State) (ea : DataAddr) (v : Nibble) : (s.writeRam ea v).pins = s.pins := rfl
@[simp] theorem State.writeRam_events (s : State) (ea : DataAddr) (v : Nibble) : (s.writeRam ea v).events = s.events := rfl
@[simp] theorem State.writeRam_freeCount (s : State) (ea : DataAddr) (v : Nibble) : (s.writeRam ea v).freeCount = s.freeCount := rfl
@[simp] theorem State.writeRam_npc (s : State) (ea : DataAddr) (v : Nibble) (k : Nat) : (s.writeRam ea v).npc k = s.npc k := rfl
@[simp] theorem State.writeRam_latchOf (s : State) (ea : DataAddr) (v : Nibble) (q : BitVec 5) : (s.writeRam ea v).latchOf q = s.latchOf q := rfl

/-! ### `portWrite` -/

@[simp] theorem State.portWrite_dev (s : State) (p : BitVec 5) (v : Nibble) : (s.portWrite p v).dev = s.dev := rfl
@[simp] theorem State.portWrite_rom (s : State) (p : BitVec 5) (v : Nibble) : (s.portWrite p v).rom = s.rom := rfl
@[simp] theorem State.portWrite_ram (s : State) (p : BitVec 5) (v : Nibble) : (s.portWrite p v).ram = s.ram := rfl
@[simp] theorem State.portWrite_pc (s : State) (p : BitVec 5) (v : Nibble) : (s.portWrite p v).pc = s.pc := rfl
@[simp] theorem State.portWrite_a (s : State) (p : BitVec 5) (v : Nibble) : (s.portWrite p v).a = s.a := rfl
@[simp] theorem State.portWrite_h (s : State) (p : BitVec 5) (v : Nibble) : (s.portWrite p v).h = s.h := rfl
@[simp] theorem State.portWrite_l (s : State) (p : BitVec 5) (v : Nibble) : (s.portWrite p v).l = s.l := rfl
@[simp] theorem State.portWrite_cf (s : State) (p : BitVec 5) (v : Nibble) : (s.portWrite p v).cf = s.cf := rfl
@[simp] theorem State.portWrite_zf (s : State) (p : BitVec 5) (v : Nibble) : (s.portWrite p v).zf = s.zf := rfl
@[simp] theorem State.portWrite_sf (s : State) (p : BitVec 5) (v : Nibble) : (s.portWrite p v).sf = s.sf := rfl
@[simp] theorem State.portWrite_gf (s : State) (p : BitVec 5) (v : Nibble) : (s.portWrite p v).gf = s.gf := rfl
@[simp] theorem State.portWrite_dmb (s : State) (p : BitVec 5) (v : Nibble) : (s.portWrite p v).dmb = s.dmb := rfl
@[simp] theorem State.portWrite_dtb (s : State) (p : BitVec 5) (v : Nibble) : (s.portWrite p v).dtb = s.dtb := rfl
@[simp] theorem State.portWrite_dc (s : State) (p : BitVec 5) (v : Nibble) : (s.portWrite p v).dc = s.dc := rfl
@[simp] theorem State.portWrite_spw (s : State) (p : BitVec 5) (v : Nibble) : (s.portWrite p v).spw = s.spw := rfl
@[simp] theorem State.portWrite_stack (s : State) (p : BitVec 5) (v : Nibble) : (s.portWrite p v).stack = s.stack := rfl
@[simp] theorem State.portWrite_stk13 (s : State) (p : BitVec 5) (v : Nibble) : (s.portWrite p v).stk13 = s.stk13 := rfl
@[simp] theorem State.portWrite_spw13 (s : State) (p : BitVec 5) (v : Nibble) : (s.portWrite p v).spw13 = s.spw13 := rfl
@[simp] theorem State.portWrite_eir (s : State) (p : BitVec 5) (v : Nibble) : (s.portWrite p v).eir = s.eir := rfl
@[simp] theorem State.portWrite_eif (s : State) (p : BitVec 5) (v : Nibble) : (s.portWrite p v).eif = s.eif := rfl
@[simp] theorem State.portWrite_il (s : State) (p : BitVec 5) (v : Nibble) : (s.portWrite p v).il = s.il := rfl
@[simp] theorem State.portWrite_latch (s : State) (p : BitVec 5) (v : Nibble) : (s.portWrite p v).latch = s.latch.set p.toNat v p.isLt := rfl
@[simp] theorem State.portWrite_schedule (s : State) (p : BitVec 5) (v : Nibble) : (s.portWrite p v).schedule = s.schedule := rfl
@[simp] theorem State.portWrite_pins (s : State) (p : BitVec 5) (v : Nibble) : (s.portWrite p v).pins = s.pins := rfl
@[simp] theorem State.portWrite_events (s : State) (p : BitVec 5) (v : Nibble) : (s.portWrite p v).events = .portOut p v :: s.events := rfl
@[simp] theorem State.portWrite_freeCount (s : State) (p : BitVec 5) (v : Nibble) : (s.portWrite p v).freeCount = s.freeCount := rfl
@[simp] theorem State.portWrite_readRam (s : State) (p : BitVec 5) (v : Nibble) (ea : DataAddr) : (s.portWrite p v).readRam ea = s.readRam ea := rfl
@[simp] theorem State.portWrite_npc (s : State) (p : BitVec 5) (v : Nibble) (k : Nat) : (s.portWrite p v).npc k = s.npc k := rfl

/-! ### `drew` -/

@[simp] theorem State.drew_dev (s : State) (p : BitVec 5) : (s.drew p).dev = s.dev := rfl
@[simp] theorem State.drew_rom (s : State) (p : BitVec 5) : (s.drew p).rom = s.rom := rfl
@[simp] theorem State.drew_ram (s : State) (p : BitVec 5) : (s.drew p).ram = s.ram := rfl
@[simp] theorem State.drew_pc (s : State) (p : BitVec 5) : (s.drew p).pc = s.pc := rfl
@[simp] theorem State.drew_a (s : State) (p : BitVec 5) : (s.drew p).a = s.a := rfl
@[simp] theorem State.drew_h (s : State) (p : BitVec 5) : (s.drew p).h = s.h := rfl
@[simp] theorem State.drew_l (s : State) (p : BitVec 5) : (s.drew p).l = s.l := rfl
@[simp] theorem State.drew_cf (s : State) (p : BitVec 5) : (s.drew p).cf = s.cf := rfl
@[simp] theorem State.drew_zf (s : State) (p : BitVec 5) : (s.drew p).zf = s.zf := rfl
@[simp] theorem State.drew_sf (s : State) (p : BitVec 5) : (s.drew p).sf = s.sf := rfl
@[simp] theorem State.drew_gf (s : State) (p : BitVec 5) : (s.drew p).gf = s.gf := rfl
@[simp] theorem State.drew_dmb (s : State) (p : BitVec 5) : (s.drew p).dmb = s.dmb := rfl
@[simp] theorem State.drew_dtb (s : State) (p : BitVec 5) : (s.drew p).dtb = s.dtb := rfl
@[simp] theorem State.drew_dc (s : State) (p : BitVec 5) : (s.drew p).dc = s.dc := rfl
@[simp] theorem State.drew_spw (s : State) (p : BitVec 5) : (s.drew p).spw = s.spw := rfl
@[simp] theorem State.drew_stack (s : State) (p : BitVec 5) : (s.drew p).stack = s.stack := rfl
@[simp] theorem State.drew_stk13 (s : State) (p : BitVec 5) : (s.drew p).stk13 = s.stk13 := rfl
@[simp] theorem State.drew_spw13 (s : State) (p : BitVec 5) : (s.drew p).spw13 = s.spw13 := rfl
@[simp] theorem State.drew_eir (s : State) (p : BitVec 5) : (s.drew p).eir = s.eir := rfl
@[simp] theorem State.drew_eif (s : State) (p : BitVec 5) : (s.drew p).eif = s.eif := rfl
@[simp] theorem State.drew_il (s : State) (p : BitVec 5) : (s.drew p).il = s.il := rfl
@[simp] theorem State.drew_latch (s : State) (p : BitVec 5) : (s.drew p).latch = s.latch := rfl
@[simp] theorem State.drew_schedule (s : State) (p : BitVec 5) : (s.drew p).schedule = s.schedule := rfl
@[simp] theorem State.drew_pins (s : State) (p : BitVec 5) : (s.drew p).pins = s.pins.tail := rfl
@[simp] theorem State.drew_events (s : State) (p : BitVec 5) : (s.drew p).events = .portIn p s.pinValue :: s.events := rfl
@[simp] theorem State.drew_freeCount (s : State) (p : BitVec 5) : (s.drew p).freeCount = s.freeCount + 1 := rfl
@[simp] theorem State.drew_readRam (s : State) (p : BitVec 5) (ea : DataAddr) : (s.drew p).readRam ea = s.readRam ea := rfl
@[simp] theorem State.drew_npc (s : State) (p : BitVec 5) (k : Nat) : (s.drew p).npc k = s.npc k := rfl
@[simp] theorem State.drew_latchOf (s : State) (p : BitVec 5) (q : BitVec 5) : (s.drew p).latchOf q = s.latchOf q := rfl

/-! ### `setDmb` -/

@[simp] theorem State.setDmb_dev (s : State) (v : BitVec 2) : (s.setDmb v).dev = s.dev := rfl
@[simp] theorem State.setDmb_rom (s : State) (v : BitVec 2) : (s.setDmb v).rom = s.rom := rfl
@[simp] theorem State.setDmb_ram (s : State) (v : BitVec 2) : (s.setDmb v).ram = s.ram := rfl
@[simp] theorem State.setDmb_pc (s : State) (v : BitVec 2) : (s.setDmb v).pc = s.pc := rfl
@[simp] theorem State.setDmb_a (s : State) (v : BitVec 2) : (s.setDmb v).a = s.a := rfl
@[simp] theorem State.setDmb_h (s : State) (v : BitVec 2) : (s.setDmb v).h = s.h := rfl
@[simp] theorem State.setDmb_l (s : State) (v : BitVec 2) : (s.setDmb v).l = s.l := rfl
@[simp] theorem State.setDmb_cf (s : State) (v : BitVec 2) : (s.setDmb v).cf = s.cf := rfl
@[simp] theorem State.setDmb_zf (s : State) (v : BitVec 2) : (s.setDmb v).zf = s.zf := rfl
@[simp] theorem State.setDmb_sf (s : State) (v : BitVec 2) : (s.setDmb v).sf = s.sf := rfl
@[simp] theorem State.setDmb_gf (s : State) (v : BitVec 2) : (s.setDmb v).gf = s.gf := rfl
@[simp] theorem State.setDmb_dmb (s : State) (v : BitVec 2) : (s.setDmb v).dmb = narrowDmb s.dev.series v := rfl
@[simp] theorem State.setDmb_dtb (s : State) (v : BitVec 2) : (s.setDmb v).dtb = s.dtb := rfl
@[simp] theorem State.setDmb_dc (s : State) (v : BitVec 2) : (s.setDmb v).dc = s.dc := rfl
@[simp] theorem State.setDmb_spw (s : State) (v : BitVec 2) : (s.setDmb v).spw = s.spw := rfl
@[simp] theorem State.setDmb_stack (s : State) (v : BitVec 2) : (s.setDmb v).stack = s.stack := rfl
@[simp] theorem State.setDmb_stk13 (s : State) (v : BitVec 2) : (s.setDmb v).stk13 = s.stk13 := rfl
@[simp] theorem State.setDmb_spw13 (s : State) (v : BitVec 2) : (s.setDmb v).spw13 = s.spw13 := rfl
@[simp] theorem State.setDmb_eir (s : State) (v : BitVec 2) : (s.setDmb v).eir = s.eir := rfl
@[simp] theorem State.setDmb_eif (s : State) (v : BitVec 2) : (s.setDmb v).eif = s.eif := rfl
@[simp] theorem State.setDmb_il (s : State) (v : BitVec 2) : (s.setDmb v).il = s.il := rfl
@[simp] theorem State.setDmb_latch (s : State) (v : BitVec 2) : (s.setDmb v).latch = s.latch := rfl
@[simp] theorem State.setDmb_schedule (s : State) (v : BitVec 2) : (s.setDmb v).schedule = s.schedule := rfl
@[simp] theorem State.setDmb_pins (s : State) (v : BitVec 2) : (s.setDmb v).pins = s.pins := rfl
@[simp] theorem State.setDmb_events (s : State) (v : BitVec 2) : (s.setDmb v).events = s.events := rfl
@[simp] theorem State.setDmb_freeCount (s : State) (v : BitVec 2) : (s.setDmb v).freeCount = s.freeCount := rfl
@[simp] theorem State.setDmb_readRam (s : State) (v : BitVec 2) (ea : DataAddr) : (s.setDmb v).readRam ea = s.readRam ea := rfl
@[simp] theorem State.setDmb_npc (s : State) (v : BitVec 2) (k : Nat) : (s.setDmb v).npc k = s.npc k := rfl
@[simp] theorem State.setDmb_latchOf (s : State) (v : BitVec 2) (q : BitVec 5) : (s.setDmb v).latchOf q = s.latchOf q := rfl

/-! ### `setFlags` -/

@[simp] theorem State.setFlags_dev (s : State) (f : Flags) : (s.setFlags f).dev = s.dev := rfl
@[simp] theorem State.setFlags_rom (s : State) (f : Flags) : (s.setFlags f).rom = s.rom := rfl
@[simp] theorem State.setFlags_ram (s : State) (f : Flags) : (s.setFlags f).ram = s.ram := rfl
@[simp] theorem State.setFlags_pc (s : State) (f : Flags) : (s.setFlags f).pc = s.pc := rfl
@[simp] theorem State.setFlags_a (s : State) (f : Flags) : (s.setFlags f).a = s.a := rfl
@[simp] theorem State.setFlags_h (s : State) (f : Flags) : (s.setFlags f).h = s.h := rfl
@[simp] theorem State.setFlags_l (s : State) (f : Flags) : (s.setFlags f).l = s.l := rfl
@[simp] theorem State.setFlags_cf (s : State) (f : Flags) : (s.setFlags f).cf = f.cf := rfl
@[simp] theorem State.setFlags_zf (s : State) (f : Flags) : (s.setFlags f).zf = f.zf := rfl
@[simp] theorem State.setFlags_sf (s : State) (f : Flags) : (s.setFlags f).sf = f.sf := rfl
@[simp] theorem State.setFlags_gf (s : State) (f : Flags) : (s.setFlags f).gf = if s.dev.series = .s47 then f.gf else s.gf := rfl
@[simp] theorem State.setFlags_dmb (s : State) (f : Flags) : (s.setFlags f).dmb = s.dmb := rfl
@[simp] theorem State.setFlags_dtb (s : State) (f : Flags) : (s.setFlags f).dtb = s.dtb := rfl
@[simp] theorem State.setFlags_dc (s : State) (f : Flags) : (s.setFlags f).dc = s.dc := rfl
@[simp] theorem State.setFlags_spw (s : State) (f : Flags) : (s.setFlags f).spw = s.spw := rfl
@[simp] theorem State.setFlags_stack (s : State) (f : Flags) : (s.setFlags f).stack = s.stack := rfl
@[simp] theorem State.setFlags_stk13 (s : State) (f : Flags) : (s.setFlags f).stk13 = s.stk13 := rfl
@[simp] theorem State.setFlags_spw13 (s : State) (f : Flags) : (s.setFlags f).spw13 = s.spw13 := rfl
@[simp] theorem State.setFlags_eir (s : State) (f : Flags) : (s.setFlags f).eir = s.eir := rfl
@[simp] theorem State.setFlags_eif (s : State) (f : Flags) : (s.setFlags f).eif = s.eif := rfl
@[simp] theorem State.setFlags_il (s : State) (f : Flags) : (s.setFlags f).il = s.il := rfl
@[simp] theorem State.setFlags_latch (s : State) (f : Flags) : (s.setFlags f).latch = s.latch := rfl
@[simp] theorem State.setFlags_schedule (s : State) (f : Flags) : (s.setFlags f).schedule = s.schedule := rfl
@[simp] theorem State.setFlags_pins (s : State) (f : Flags) : (s.setFlags f).pins = s.pins := rfl
@[simp] theorem State.setFlags_events (s : State) (f : Flags) : (s.setFlags f).events = s.events := rfl
@[simp] theorem State.setFlags_freeCount (s : State) (f : Flags) : (s.setFlags f).freeCount = s.freeCount := rfl
@[simp] theorem State.setFlags_readRam (s : State) (f : Flags) (ea : DataAddr) : (s.setFlags f).readRam ea = s.readRam ea := rfl
@[simp] theorem State.setFlags_npc (s : State) (f : Flags) (k : Nat) : (s.setFlags f).npc k = s.npc k := rfl
@[simp] theorem State.setFlags_latchOf (s : State) (f : Flags) (q : BitVec 5) : (s.setFlags f).latchOf q = s.latchOf q := rfl

/-! ### `push` -/

@[simp] theorem State.push_dev (s : State) (ret : CodeAddr) (f : Flags) : (s.push ret f).dev = s.dev := rfl
@[simp] theorem State.push_rom (s : State) (ret : CodeAddr) (f : Flags) : (s.push ret f).rom = s.rom := rfl
@[simp] theorem State.push_ram (s : State) (ret : CodeAddr) (f : Flags) : (s.push ret f).ram = s.ram := rfl
@[simp] theorem State.push_pc (s : State) (ret : CodeAddr) (f : Flags) : (s.push ret f).pc = s.pc := rfl
@[simp] theorem State.push_a (s : State) (ret : CodeAddr) (f : Flags) : (s.push ret f).a = s.a := rfl
@[simp] theorem State.push_h (s : State) (ret : CodeAddr) (f : Flags) : (s.push ret f).h = s.h := rfl
@[simp] theorem State.push_l (s : State) (ret : CodeAddr) (f : Flags) : (s.push ret f).l = s.l := rfl
@[simp] theorem State.push_cf (s : State) (ret : CodeAddr) (f : Flags) : (s.push ret f).cf = s.cf := rfl
@[simp] theorem State.push_zf (s : State) (ret : CodeAddr) (f : Flags) : (s.push ret f).zf = s.zf := rfl
@[simp] theorem State.push_sf (s : State) (ret : CodeAddr) (f : Flags) : (s.push ret f).sf = s.sf := rfl
@[simp] theorem State.push_gf (s : State) (ret : CodeAddr) (f : Flags) : (s.push ret f).gf = s.gf := rfl
@[simp] theorem State.push_dmb (s : State) (ret : CodeAddr) (f : Flags) : (s.push ret f).dmb = s.dmb := rfl
@[simp] theorem State.push_dtb (s : State) (ret : CodeAddr) (f : Flags) : (s.push ret f).dtb = s.dtb := rfl
@[simp] theorem State.push_dc (s : State) (ret : CodeAddr) (f : Flags) : (s.push ret f).dc = s.dc := rfl
@[simp] theorem State.push_spw (s : State) (ret : CodeAddr) (f : Flags) : (s.push ret f).spw = s.spw - 1 := rfl
@[simp] theorem State.push_stack (s : State) (ret : CodeAddr) (f : Flags) : (s.push ret f).stack = s.stack.set s.spw.toNat ⟨ret.extractLsb' 0 13, f⟩ s.spw.isLt := rfl
@[simp] theorem State.push_stk13 (s : State) (ret : CodeAddr) (f : Flags) : (s.push ret f).stk13 = s.stk13.set s.spw.toNat (s.dev.series != .s47 && ret.getLsbD 13) s.spw.isLt := rfl
@[simp] theorem State.push_spw13 (s : State) (ret : CodeAddr) (f : Flags) : (s.push ret f).spw13 = s.spw13 := rfl
@[simp] theorem State.push_eir (s : State) (ret : CodeAddr) (f : Flags) : (s.push ret f).eir = s.eir := rfl
@[simp] theorem State.push_eif (s : State) (ret : CodeAddr) (f : Flags) : (s.push ret f).eif = s.eif := rfl
@[simp] theorem State.push_il (s : State) (ret : CodeAddr) (f : Flags) : (s.push ret f).il = s.il := rfl
@[simp] theorem State.push_latch (s : State) (ret : CodeAddr) (f : Flags) : (s.push ret f).latch = s.latch := rfl
@[simp] theorem State.push_schedule (s : State) (ret : CodeAddr) (f : Flags) : (s.push ret f).schedule = s.schedule := rfl
@[simp] theorem State.push_pins (s : State) (ret : CodeAddr) (f : Flags) : (s.push ret f).pins = s.pins := rfl
@[simp] theorem State.push_events (s : State) (ret : CodeAddr) (f : Flags) : (s.push ret f).events = s.events := rfl
@[simp] theorem State.push_freeCount (s : State) (ret : CodeAddr) (f : Flags) : (s.push ret f).freeCount = s.freeCount := rfl
@[simp] theorem State.push_readRam (s : State) (ret : CodeAddr) (f : Flags) (ea : DataAddr) : (s.push ret f).readRam ea = s.readRam ea := rfl
@[simp] theorem State.push_npc (s : State) (ret : CodeAddr) (f : Flags) (k : Nat) : (s.push ret f).npc k = s.npc k := rfl
@[simp] theorem State.push_latchOf (s : State) (ret : CodeAddr) (f : Flags) (q : BitVec 5) : (s.push ret f).latchOf q = s.latchOf q := rfl

/-! ### `pop` -/

@[simp] theorem State.pop_dev (s : State) : s.pop.dev = s.dev := rfl
@[simp] theorem State.pop_rom (s : State) : s.pop.rom = s.rom := rfl
@[simp] theorem State.pop_ram (s : State) : s.pop.ram = s.ram := rfl
@[simp] theorem State.pop_pc (s : State) : s.pop.pc = s.popPc := rfl
@[simp] theorem State.pop_a (s : State) : s.pop.a = s.a := rfl
@[simp] theorem State.pop_h (s : State) : s.pop.h = s.h := rfl
@[simp] theorem State.pop_l (s : State) : s.pop.l = s.l := rfl
@[simp] theorem State.pop_cf (s : State) : s.pop.cf = s.cf := rfl
@[simp] theorem State.pop_zf (s : State) : s.pop.zf = s.zf := rfl
@[simp] theorem State.pop_sf (s : State) : s.pop.sf = s.sf := rfl
@[simp] theorem State.pop_gf (s : State) : s.pop.gf = s.gf := rfl
@[simp] theorem State.pop_dmb (s : State) : s.pop.dmb = s.dmb := rfl
@[simp] theorem State.pop_dtb (s : State) : s.pop.dtb = s.dtb := rfl
@[simp] theorem State.pop_dc (s : State) : s.pop.dc = s.dc := rfl
@[simp] theorem State.pop_spw (s : State) : s.pop.spw = s.popIndex := rfl
@[simp] theorem State.pop_stack (s : State) : s.pop.stack = s.stack := rfl
@[simp] theorem State.pop_stk13 (s : State) : s.pop.stk13 = s.stk13 := rfl
@[simp] theorem State.pop_spw13 (s : State) : s.pop.spw13 = s.spw13 := rfl
@[simp] theorem State.pop_eir (s : State) : s.pop.eir = s.eir := rfl
@[simp] theorem State.pop_eif (s : State) : s.pop.eif = s.eif := rfl
@[simp] theorem State.pop_il (s : State) : s.pop.il = s.il := rfl
@[simp] theorem State.pop_latch (s : State) : s.pop.latch = s.latch := rfl
@[simp] theorem State.pop_schedule (s : State) : s.pop.schedule = s.schedule := rfl
@[simp] theorem State.pop_pins (s : State) : s.pop.pins = s.pins := rfl
@[simp] theorem State.pop_events (s : State) : s.pop.events = s.events := rfl
@[simp] theorem State.pop_freeCount (s : State) : s.pop.freeCount = s.freeCount := rfl
@[simp] theorem State.pop_readRam (s : State) (ea : DataAddr) : s.pop.readRam ea = s.readRam ea := rfl
@[simp] theorem State.pop_latchOf (s : State) (q : BitVec 5) : s.pop.latchOf q = s.latchOf q := rfl

/-! ### `branch` -/

@[simp] theorem State.branch_dev (s : State) (n : Nat) (t : CodeAddr) : (s.branch n t).dev = s.dev := rfl
@[simp] theorem State.branch_rom (s : State) (n : Nat) (t : CodeAddr) : (s.branch n t).rom = s.rom := rfl
@[simp] theorem State.branch_ram (s : State) (n : Nat) (t : CodeAddr) : (s.branch n t).ram = s.ram := rfl
@[simp] theorem State.branch_pc (s : State) (n : Nat) (t : CodeAddr) : (s.branch n t).pc = if s.sf then wrapPc s.dev.series t else s.npc n := rfl
@[simp] theorem State.branch_a (s : State) (n : Nat) (t : CodeAddr) : (s.branch n t).a = s.a := rfl
@[simp] theorem State.branch_h (s : State) (n : Nat) (t : CodeAddr) : (s.branch n t).h = s.h := rfl
@[simp] theorem State.branch_l (s : State) (n : Nat) (t : CodeAddr) : (s.branch n t).l = s.l := rfl
@[simp] theorem State.branch_cf (s : State) (n : Nat) (t : CodeAddr) : (s.branch n t).cf = s.cf := rfl
@[simp] theorem State.branch_zf (s : State) (n : Nat) (t : CodeAddr) : (s.branch n t).zf = s.zf := rfl
@[simp] theorem State.branch_sf (s : State) (n : Nat) (t : CodeAddr) : (s.branch n t).sf = true := rfl
@[simp] theorem State.branch_gf (s : State) (n : Nat) (t : CodeAddr) : (s.branch n t).gf = s.gf := rfl
@[simp] theorem State.branch_dmb (s : State) (n : Nat) (t : CodeAddr) : (s.branch n t).dmb = s.dmb := rfl
@[simp] theorem State.branch_dtb (s : State) (n : Nat) (t : CodeAddr) : (s.branch n t).dtb = s.dtb := rfl
@[simp] theorem State.branch_dc (s : State) (n : Nat) (t : CodeAddr) : (s.branch n t).dc = s.dc := rfl
@[simp] theorem State.branch_spw (s : State) (n : Nat) (t : CodeAddr) : (s.branch n t).spw = s.spw := rfl
@[simp] theorem State.branch_stack (s : State) (n : Nat) (t : CodeAddr) : (s.branch n t).stack = s.stack := rfl
@[simp] theorem State.branch_stk13 (s : State) (n : Nat) (t : CodeAddr) : (s.branch n t).stk13 = s.stk13 := rfl
@[simp] theorem State.branch_spw13 (s : State) (n : Nat) (t : CodeAddr) : (s.branch n t).spw13 = s.spw13 := rfl
@[simp] theorem State.branch_eir (s : State) (n : Nat) (t : CodeAddr) : (s.branch n t).eir = s.eir := rfl
@[simp] theorem State.branch_eif (s : State) (n : Nat) (t : CodeAddr) : (s.branch n t).eif = s.eif := rfl
@[simp] theorem State.branch_il (s : State) (n : Nat) (t : CodeAddr) : (s.branch n t).il = s.il := rfl
@[simp] theorem State.branch_latch (s : State) (n : Nat) (t : CodeAddr) : (s.branch n t).latch = s.latch := rfl
@[simp] theorem State.branch_schedule (s : State) (n : Nat) (t : CodeAddr) : (s.branch n t).schedule = s.schedule := rfl
@[simp] theorem State.branch_pins (s : State) (n : Nat) (t : CodeAddr) : (s.branch n t).pins = s.pins := rfl
@[simp] theorem State.branch_events (s : State) (n : Nat) (t : CodeAddr) : (s.branch n t).events = s.events := rfl
@[simp] theorem State.branch_freeCount (s : State) (n : Nat) (t : CodeAddr) : (s.branch n t).freeCount = s.freeCount := rfl
@[simp] theorem State.branch_readRam (s : State) (n : Nat) (t : CodeAddr) (ea : DataAddr) : (s.branch n t).readRam ea = s.readRam ea := rfl
@[simp] theorem State.branch_latchOf (s : State) (n : Nat) (t : CodeAddr) (q : BitVec 5) : (s.branch n t).latchOf q = s.latchOf q := rfl

/-! ### `boundary` -/

@[simp] theorem State.boundary_dev (s : State) : s.boundary.dev = s.dev := rfl
@[simp] theorem State.boundary_rom (s : State) : s.boundary.rom = s.rom := rfl
@[simp] theorem State.boundary_ram (s : State) : s.boundary.ram = s.ram := rfl
@[simp] theorem State.boundary_pc (s : State) : s.boundary.pc = s.pc := rfl
@[simp] theorem State.boundary_a (s : State) : s.boundary.a = s.a := rfl
@[simp] theorem State.boundary_h (s : State) : s.boundary.h = s.h := rfl
@[simp] theorem State.boundary_l (s : State) : s.boundary.l = s.l := rfl
@[simp] theorem State.boundary_cf (s : State) : s.boundary.cf = s.cf := rfl
@[simp] theorem State.boundary_zf (s : State) : s.boundary.zf = s.zf := rfl
@[simp] theorem State.boundary_sf (s : State) : s.boundary.sf = s.sf := rfl
@[simp] theorem State.boundary_gf (s : State) : s.boundary.gf = s.gf := rfl
@[simp] theorem State.boundary_dmb (s : State) : s.boundary.dmb = s.dmb := rfl
@[simp] theorem State.boundary_dtb (s : State) : s.boundary.dtb = s.dtb := rfl
@[simp] theorem State.boundary_dc (s : State) : s.boundary.dc = s.dc := rfl
@[simp] theorem State.boundary_spw (s : State) : s.boundary.spw = s.spw := rfl
@[simp] theorem State.boundary_stack (s : State) : s.boundary.stack = s.stack := rfl
@[simp] theorem State.boundary_stk13 (s : State) : s.boundary.stk13 = s.stk13 := rfl
@[simp] theorem State.boundary_spw13 (s : State) : s.boundary.spw13 = s.spw13 := rfl
@[simp] theorem State.boundary_eir (s : State) : s.boundary.eir = s.eir := rfl
@[simp] theorem State.boundary_eif (s : State) : s.boundary.eif = s.eif := rfl
@[simp] theorem State.boundary_il (s : State) : s.boundary.il = s.il ||| s.requests := rfl
@[simp] theorem State.boundary_latch (s : State) : s.boundary.latch = s.latch := rfl
@[simp] theorem State.boundary_schedule (s : State) : s.boundary.schedule = s.schedule.tail := rfl
@[simp] theorem State.boundary_pins (s : State) : s.boundary.pins = s.pins := rfl
@[simp] theorem State.boundary_events (s : State) : s.boundary.events = irqEvents s.requests ++ s.events := rfl
@[simp] theorem State.boundary_freeCount (s : State) : s.boundary.freeCount = s.freeCount := rfl
@[simp] theorem State.boundary_readRam (s : State) (ea : DataAddr) : s.boundary.readRam ea = s.readRam ea := rfl
@[simp] theorem State.boundary_npc (s : State) (k : Nat) : s.boundary.npc k = s.npc k := rfl
@[simp] theorem State.boundary_latchOf (s : State) (q : BitVec 5) : s.boundary.latchOf q = s.latchOf q := rfl

/-! ### `incL` -/

@[simp] theorem State.incL_dev (s : State) : s.incL.dev = s.dev := rfl
@[simp] theorem State.incL_rom (s : State) : s.incL.rom = s.rom := rfl
@[simp] theorem State.incL_ram (s : State) : s.incL.ram = s.ram := rfl
@[simp] theorem State.incL_pc (s : State) : s.incL.pc = s.pc := rfl
@[simp] theorem State.incL_a (s : State) : s.incL.a = s.a := rfl
@[simp] theorem State.incL_h (s : State) : s.incL.h = s.h := rfl
@[simp] theorem State.incL_l (s : State) : s.incL.l = (add4 s.l 1 false).1 := rfl
@[simp] theorem State.incL_cf (s : State) : s.incL.cf = s.cf := rfl
@[simp] theorem State.incL_zf (s : State) : s.incL.zf = isZero (add4 s.l 1 false).1 := rfl
@[simp] theorem State.incL_sf (s : State) : s.incL.sf = !(add4 s.l 1 false).2 := rfl
@[simp] theorem State.incL_gf (s : State) : s.incL.gf = s.gf := rfl
@[simp] theorem State.incL_dmb (s : State) : s.incL.dmb = s.dmb := rfl
@[simp] theorem State.incL_dtb (s : State) : s.incL.dtb = s.dtb := rfl
@[simp] theorem State.incL_dc (s : State) : s.incL.dc = s.dc := rfl
@[simp] theorem State.incL_spw (s : State) : s.incL.spw = s.spw := rfl
@[simp] theorem State.incL_stack (s : State) : s.incL.stack = s.stack := rfl
@[simp] theorem State.incL_stk13 (s : State) : s.incL.stk13 = s.stk13 := rfl
@[simp] theorem State.incL_spw13 (s : State) : s.incL.spw13 = s.spw13 := rfl
@[simp] theorem State.incL_eir (s : State) : s.incL.eir = s.eir := rfl
@[simp] theorem State.incL_eif (s : State) : s.incL.eif = s.eif := rfl
@[simp] theorem State.incL_il (s : State) : s.incL.il = s.il := rfl
@[simp] theorem State.incL_latch (s : State) : s.incL.latch = s.latch := rfl
@[simp] theorem State.incL_schedule (s : State) : s.incL.schedule = s.schedule := rfl
@[simp] theorem State.incL_pins (s : State) : s.incL.pins = s.pins := rfl
@[simp] theorem State.incL_events (s : State) : s.incL.events = s.events := rfl
@[simp] theorem State.incL_freeCount (s : State) : s.incL.freeCount = s.freeCount := rfl
@[simp] theorem State.incL_readRam (s : State) (ea : DataAddr) : s.incL.readRam ea = s.readRam ea := rfl
@[simp] theorem State.incL_npc (s : State) (k : Nat) : s.incL.npc k = s.npc k := rfl
@[simp] theorem State.incL_latchOf (s : State) (q : BitVec 5) : s.incL.latchOf q = s.latchOf q := rfl

/-! ### `decL` -/

@[simp] theorem State.decL_dev (s : State) : s.decL.dev = s.dev := rfl
@[simp] theorem State.decL_rom (s : State) : s.decL.rom = s.rom := rfl
@[simp] theorem State.decL_ram (s : State) : s.decL.ram = s.ram := rfl
@[simp] theorem State.decL_pc (s : State) : s.decL.pc = s.pc := rfl
@[simp] theorem State.decL_a (s : State) : s.decL.a = s.a := rfl
@[simp] theorem State.decL_h (s : State) : s.decL.h = s.h := rfl
@[simp] theorem State.decL_l (s : State) : s.decL.l = (sub4 s.l 1 false).1 := rfl
@[simp] theorem State.decL_cf (s : State) : s.decL.cf = s.cf := rfl
@[simp] theorem State.decL_zf (s : State) : s.decL.zf = isZero (sub4 s.l 1 false).1 := rfl
@[simp] theorem State.decL_sf (s : State) : s.decL.sf = (sub4 s.l 1 false).2 := rfl
@[simp] theorem State.decL_gf (s : State) : s.decL.gf = s.gf := rfl
@[simp] theorem State.decL_dmb (s : State) : s.decL.dmb = s.dmb := rfl
@[simp] theorem State.decL_dtb (s : State) : s.decL.dtb = s.dtb := rfl
@[simp] theorem State.decL_dc (s : State) : s.decL.dc = s.dc := rfl
@[simp] theorem State.decL_spw (s : State) : s.decL.spw = s.spw := rfl
@[simp] theorem State.decL_stack (s : State) : s.decL.stack = s.stack := rfl
@[simp] theorem State.decL_stk13 (s : State) : s.decL.stk13 = s.stk13 := rfl
@[simp] theorem State.decL_spw13 (s : State) : s.decL.spw13 = s.spw13 := rfl
@[simp] theorem State.decL_eir (s : State) : s.decL.eir = s.eir := rfl
@[simp] theorem State.decL_eif (s : State) : s.decL.eif = s.eif := rfl
@[simp] theorem State.decL_il (s : State) : s.decL.il = s.il := rfl
@[simp] theorem State.decL_latch (s : State) : s.decL.latch = s.latch := rfl
@[simp] theorem State.decL_schedule (s : State) : s.decL.schedule = s.schedule := rfl
@[simp] theorem State.decL_pins (s : State) : s.decL.pins = s.pins := rfl
@[simp] theorem State.decL_events (s : State) : s.decL.events = s.events := rfl
@[simp] theorem State.decL_freeCount (s : State) : s.decL.freeCount = s.freeCount := rfl
@[simp] theorem State.decL_readRam (s : State) (ea : DataAddr) : s.decL.readRam ea = s.readRam ea := rfl
@[simp] theorem State.decL_npc (s : State) (k : Nat) : s.decL.npc k = s.npc k := rfl
@[simp] theorem State.decL_latchOf (s : State) (q : BitVec 5) : s.decL.latchOf q = s.latchOf q := rfl

/-! ### `putStk13` -/

@[simp] theorem State.putStk13_dev (s : State) (v : Bool) : (s.putStk13 v).dev = s.dev := rfl
@[simp] theorem State.putStk13_rom (s : State) (v : Bool) : (s.putStk13 v).rom = s.rom := rfl
@[simp] theorem State.putStk13_ram (s : State) (v : Bool) : (s.putStk13 v).ram = s.ram := rfl
@[simp] theorem State.putStk13_pc (s : State) (v : Bool) : (s.putStk13 v).pc = s.pc := rfl
@[simp] theorem State.putStk13_a (s : State) (v : Bool) : (s.putStk13 v).a = s.a := rfl
@[simp] theorem State.putStk13_h (s : State) (v : Bool) : (s.putStk13 v).h = s.h := rfl
@[simp] theorem State.putStk13_l (s : State) (v : Bool) : (s.putStk13 v).l = s.l := rfl
@[simp] theorem State.putStk13_cf (s : State) (v : Bool) : (s.putStk13 v).cf = s.cf := rfl
@[simp] theorem State.putStk13_zf (s : State) (v : Bool) : (s.putStk13 v).zf = s.zf := rfl
@[simp] theorem State.putStk13_sf (s : State) (v : Bool) : (s.putStk13 v).sf = true := rfl
@[simp] theorem State.putStk13_gf (s : State) (v : Bool) : (s.putStk13 v).gf = s.gf := rfl
@[simp] theorem State.putStk13_dmb (s : State) (v : Bool) : (s.putStk13 v).dmb = s.dmb := rfl
@[simp] theorem State.putStk13_dtb (s : State) (v : Bool) : (s.putStk13 v).dtb = s.dtb := rfl
@[simp] theorem State.putStk13_dc (s : State) (v : Bool) : (s.putStk13 v).dc = s.dc := rfl
@[simp] theorem State.putStk13_spw (s : State) (v : Bool) : (s.putStk13 v).spw = s.spw := rfl
@[simp] theorem State.putStk13_stack (s : State) (v : Bool) : (s.putStk13 v).stack = s.stack := rfl
@[simp] theorem State.putStk13_stk13 (s : State) (v : Bool) : (s.putStk13 v).stk13 = s.stk13.set s.a.toNat v s.a.isLt := rfl
@[simp] theorem State.putStk13_spw13 (s : State) (v : Bool) : (s.putStk13 v).spw13 = s.a := rfl
@[simp] theorem State.putStk13_eir (s : State) (v : Bool) : (s.putStk13 v).eir = s.eir := rfl
@[simp] theorem State.putStk13_eif (s : State) (v : Bool) : (s.putStk13 v).eif = s.eif := rfl
@[simp] theorem State.putStk13_il (s : State) (v : Bool) : (s.putStk13 v).il = s.il := rfl
@[simp] theorem State.putStk13_latch (s : State) (v : Bool) : (s.putStk13 v).latch = s.latch := rfl
@[simp] theorem State.putStk13_schedule (s : State) (v : Bool) : (s.putStk13 v).schedule = s.schedule := rfl
@[simp] theorem State.putStk13_pins (s : State) (v : Bool) : (s.putStk13 v).pins = s.pins := rfl
@[simp] theorem State.putStk13_events (s : State) (v : Bool) : (s.putStk13 v).events = s.events := rfl
@[simp] theorem State.putStk13_freeCount (s : State) (v : Bool) : (s.putStk13 v).freeCount = s.freeCount := rfl
@[simp] theorem State.putStk13_readRam (s : State) (v : Bool) (ea : DataAddr) : (s.putStk13 v).readRam ea = s.readRam ea := rfl
@[simp] theorem State.putStk13_npc (s : State) (v : Bool) (k : Nat) : (s.putStk13 v).npc k = s.npc k := rfl
@[simp] theorem State.putStk13_latchOf (s : State) (v : Bool) (q : BitVec 5) : (s.putStk13 v).latchOf q = s.latchOf q := rfl

end Sys2Proof.Machine
end

