-- ==== Sys2Proof/Laws/Ops.lean ====
section
/-! SUPPORT. One lemma for each shared operation that says what it can do; proofs about instructions cite these. -/

namespace Sys2Proof.Machine

/-! ### Checks -/

@[simp] theorem firstFault_nil : firstFault [] = none := rfl

@[simp] theorem firstFault_cons_some (f : Fault) (r : List (Option Fault)) : firstFault (some f :: r) = some f := rfl

@[simp] theorem firstFault_cons_none (r : List (Option Fault)) : firstFault (none :: r) = firstFault r := rfl

/-- No fault is reported exactly when every check passes. -/
theorem firstFault_eq_none {fs : List (Option Fault)} : firstFault fs = none ↔ ∀ f ∈ fs, f = none := by
  induction fs with
  | nil => simp
  | cons f r ih => cases f <;> simp [ih]

/-- The reported fault is one of the checks. -/
theorem mem_of_firstFault {fs : List (Option Fault)} {e : Fault} (h : firstFault fs = some e) : some e ∈ fs := by
  induction fs with
  | nil => simp at h
  | cons f r ih =>
    cases f with
    | none => exact List.mem_cons_of_mem _ (ih (by simpa using h))
    | some f => simp_all

@[simp] theorem checked_nil (s' : State) : checked [] s' = .next s' := rfl

/-- A checked instruction goes on exactly when every check passes, and then to the state given. -/
theorem checked_eq_next {fs : List (Option Fault)} {s' t : State} :
    checked fs s' = .next t ↔ firstFault fs = none ∧ t = s' := by
  unfold checked
  cases firstFault fs <;> simp [eq_comm]

/-- A checked instruction faults exactly with the first check that fails. -/
theorem checked_eq_fault {fs : List (Option Fault)} {s' : State} {e : Fault} :
    checked fs s' = .fault e ↔ firstFault fs = some e := by
  unfold checked
  cases firstFault fs <;> simp

/-- A checked instruction never refuses. -/
theorem checked_ne_refused (fs : List (Option Fault)) (s' : State) (r : Refusal) : checked fs s' ≠ .refused r := by
  unfold checked
  cases firstFault fs <;> simp

/-- Where every check passes, the instruction answers its next state. -/
theorem checked_of_none {fs : List (Option Fault)} (s' : State) (h : ∀ f ∈ fs, f = none) : checked fs s' = .next s' :=
  checked_eq_next.2 ⟨firstFault_eq_none.2 h, rfl⟩

/-! ### Arithmetic, as exact numbers -/

@[simp] theorem isZero_iff {v : Nibble} : isZero v = true ↔ v = 0 := by simp [isZero]

/-- The sum, modulo 16. -/
theorem add4_fst_toNat (a b : Nibble) (c : Bool) : (add4 a b c).1.toNat = (a.toNat + b.toNat + c.toNat) % 16 := by
  simp [add4]

/-- The carry out of bit 3. -/
theorem add4_snd (a b : Nibble) (c : Bool) : (add4 a b c).2 = decide (16 ≤ a.toNat + b.toNat + c.toNat) := rfl

/-- The difference, modulo 16. -/
theorem sub4_fst_toNat (a b : Nibble) (w : Bool) :
    (sub4 a b w).1.toNat = (a.toNat + 16 - b.toNat + 16 - w.toNat) % 16 := by
  have ha := a.isLt
  have hb := b.isLt
  have hw : w.toNat ≤ 1 := Bool.toNat_le w
  simp only [sub4, BitVec.toNat_ofInt]
  omega

/-- `C` is 1 exactly when there is no borrow. -/
theorem sub4_snd (a b : Nibble) (w : Bool) : (sub4 a b w).2 = decide (b.toNat + w.toNat ≤ a.toNat) := by
  simp only [sub4, decide_eq_decide]
  omega

/-! ### Widths -/

theorem Series.pcw_le (s : Series) : s.pcw ≤ 14 := by cases s <;> decide

/-- A wrapped address is the address modulo `2^PCW` (10_state.md R22). -/
theorem wrapPc_toNat (s : Series) (a : CodeAddr) : (wrapPc s a).toNat = a.toNat % 2 ^ s.pcw := by
  have ha := a.isLt
  cases s
  · have h : (0x0FFF : Nat) = 2 ^ 12 - 1 := by decide
    simp only [wrapPc, Series.pcw, BitVec.toNat_and, BitVec.toNat_ofNat]
    rw [show (4095 % 2 ^ 14 : Nat) = 2 ^ 12 - 1 by decide, Nat.and_two_pow_sub_one_eq_mod]
  · simp only [wrapPc, Series.pcw]
    omega
  · simp only [wrapPc, Series.pcw]
    omega

/-- A wrapped address is at the width of PC. -/
theorem wrapPc_lt (s : Series) (a : CodeAddr) : (wrapPc s a).toNat < 2 ^ s.pcw := by
  rw [wrapPc_toNat]
  exact Nat.mod_lt _ (Nat.two_pow_pos _)

/-- Wrapping changes nothing at the width of PC. -/
theorem wrapPc_of_lt {s : Series} {a : CodeAddr} (h : a.toNat < 2 ^ s.pcw) : wrapPc s a = a :=
  BitVec.eq_of_toNat_eq (by rw [wrapPc_toNat, Nat.mod_eq_of_lt h])

/-- `npc` is `(pc + len) mod 2^PCW` (R22). -/
theorem State.npc_toNat (s : State) (len : Nat) : (s.npc len).toNat = (s.pc.toNat + len) % 2 ^ s.dev.series.pcw := by
  rw [State.npc, wrapPc_toNat]
  simp only [BitVec.toNat_add, BitVec.toNat_ofNat]
  cases s.dev.series <;> simp only [Series.pcw] <;> omega

theorem State.npc_lt (s : State) (len : Nat) : (s.npc len).toNat < 2 ^ s.dev.series.pcw := wrapPc_lt _ _

/-- DMB's width is kept by narrowing. -/
@[simp] theorem narrowDmb_narrowDmb (s : Series) (v : BitVec 2) : narrowDmb s (narrowDmb s v) = narrowDmb s v := by
  cases s <;> simp [narrowDmb, BitVec.and_assoc]

/-- The bank in force is one the series has (20_memory.md R50). -/
theorem narrowDmb_lt (s : Series) (v : BitVec 2) : (narrowDmb s v).toNat < s.nbank := by
  cases s <;> revert v <;> decide

/-! ### Bit strings as numbers -/

/-- Concatenation: the first part is the more significant one (00_scope.md R7). -/
theorem append_toNat {m n : Nat} (x : BitVec m) (y : BitVec n) : (x ++ y).toNat = x.toNat * 2 ^ n + y.toNat := by
  rw [BitVec.toNat_append, Nat.shiftLeft_eq, Nat.mul_comm, ← Nat.two_pow_add_eq_or_of_lt y.isLt]

/-- Bit 13 of an address, the part of a return address that STK13 holds. -/
theorem getLsbD_13 (a : CodeAddr) : a.getLsbD 13 = true ↔ 8192 ≤ a.toNat := by
  have := a.isLt
  rw [BitVec.getLsbD, Nat.testBit_eq_decide_div_mod_eq]
  simp
  omega

theorem spw_dec_toNat (v : BitVec 4) : (v - 1).toNat = (v.toNat + 15) % 16 := by
  revert v
  decide

theorem spw_inc_toNat (v : BitVec 4) : (v + 1).toNat = (v.toNat + 1) % 16 := by
  revert v
  decide

@[simp] theorem spw_dec_inc (v : BitVec 4) : v - 1 + 1 = v := by
  revert v
  decide

theorem vector_get_set_self {α : Type} {n : Nat} (v : Vector α n) (i : Fin n) (x : α) : (v.set i.val x i.isLt).get i = x := by
  show (v.set i.val x i.isLt)[i.val] = x
  simp

theorem vector_get_set_ne {α : Type} {n : Nat} (v : Vector α n) {i j : Fin n} (x : α) (h : j ≠ i) :
    (v.set i.val x i.isLt).get j = v.get j := by
  show (v.set i.val x i.isLt)[j.val] = v[j.val]
  rw [Vector.getElem_set_ne]
  exact fun e => h (Fin.ext e.symm)

/-! ### Addresses and their checks -/

/-- A set of words given as ranges, read as a set. -/
theorem inRanges_iff {rs : List RamRange} {ea : DataAddr} : inRanges rs ea = true ↔ ea.inSome rs := by
  simp only [inRanges, DataAddr.inSome, List.any_eq_true, Bool.and_eq_true, decide_eq_true_eq, beq_iff_eq, BitVec.le_def,
    and_assoc]

/-- A data-memory access passes exactly when the word exists and is not guarded (R54, R59). -/
theorem State.ramFault_eq_none {s : State} {ea : DataAddr} :
    s.ramFault ea = none ↔ inRanges s.dev.ramImplemented ea = true ∧ inRanges s.dev.stackAliasGuard ea = false := by
  unfold State.ramFault
  cases inRanges s.dev.ramImplemented ea <;> cases inRanges s.dev.stackAliasGuard ea <;> simp

/-- A port access passes exactly when the address is not reserved and the port exists (R60, R64). -/
theorem State.portFault_eq_none {s : State} {p : BitVec 5} :
    s.portFault p = none ↔ portReserved s.dev.series p = false ∧ Device.kindOf s.dev p ≠ .absent := by
  unfold State.portFault
  split <;> simp_all

/-- A table read passes exactly below ROM_SIZE (R57). -/
theorem State.tableFault_eq_none {s : State} {a : CodeAddr} : s.tableFault a = none ↔ a.toNat < s.dev.romSize := by
  simp [State.tableFault]

/-- A stack access passes exactly at a usable location (48_subroutine.md R274). -/
theorem State.stackFault_eq_none {s : State} {i : BitVec 4} :
    s.stackFault i = none ↔ s.dev.stackUsable.getLsbD i.toNat = true := by
  simp [State.stackFault]

/-- The operand of the pair instructions passes exactly when its low two bits are 0 (R53). -/
theorem pairFault_eq_none {x : Byte} : pairFault x = none ↔ x.extractLsb' 0 2 = 0 := by simp [pairFault]

/-- The low two bits of the operand, as a remainder. -/
theorem pair_aligned_iff {x : Byte} : x.extractLsb' 0 2 = 0 ↔ x.toNat % 4 = 0 := by
  constructor
  · intro e
    have := congrArg BitVec.toNat e
    simpa using this
  · intro h
    apply BitVec.eq_of_toNat_eq
    simpa using h

/-- A key in the bank in force lies in the banks of the series. -/
theorem key_lt_of_dmbv (s : State) (a : BitVec 8) : DataAddr.key ⟨s.dmbv, a⟩ < 256 * s.dev.series.nbank := by
  have h : s.dmbv.toNat < s.dev.series.nbank := narrowDmb_lt _ _
  have ha := a.isLt
  simp only [DataAddr.key]
  omega

/-- A zero-page key lies in bank 0. -/
theorem key_eaY_lt (y : Nibble) : (eaY y).key < 16 := by
  revert y
  decide

/-! ### Ports -/

theorem State.latchOf_eq (s : State) (p : BitVec 5) : s.latchOf p = s.latch[p.toNat]'p.isLt := rfl

/-- A port's latch after a write to it (R62). -/
@[simp] theorem State.portWrite_latchOf_same (s : State) (p : BitVec 5) (v : Nibble) : (s.portWrite p v).latchOf p = v := by
  simp only [State.latchOf_eq, State.portWrite_latch, Vector.getElem_set_self]

/-- A port write leaves every other latch alone. -/
theorem State.portWrite_latchOf_other (s : State) {p q : BitVec 5} (v : Nibble) (h : q ≠ p) :
    (s.portWrite p v).latchOf q = s.latchOf q := by
  have hne : p.toNat ≠ q.toNat := fun e => h (BitVec.eq_of_toNat_eq e.symm)
  simp only [State.latchOf_eq, State.portWrite_latch, Vector.getElem_set_ne _ _ hne]

/-! ### Reading a port bit (R63) -/

theorem State.bitSourced_of_output {s : State} {p : BitVec 5} (h : Device.kindOf s.dev p = .output) :
    s.bitSourced p = s ∧ s.bitSource p = s.latchOf p := by
  simp [State.bitSourced, State.bitSource, h]

theorem State.bitSourced_of_not_output {s : State} {p : BitVec 5} (h : Device.kindOf s.dev p ≠ .output) :
    s.bitSourced p = s.drew p ∧ s.bitSource p = s.pinValue := by
  simp [State.bitSourced, State.bitSource, h]

/-- Reading a port bit touches at most the input list, the events and the model's counter. -/
theorem State.bitSourced_frame (s : State) (p : BitVec 5) :
    s.bitSourced p = { s with
      pins := (s.bitSourced p).pins, events := (s.bitSourced p).events, freeCount := (s.bitSourced p).freeCount } := by
  unfold State.bitSourced
  split <;> rfl

/-- `@L` names port 4 + L[3:2] and bit L[1:0] (45_bit_manipulation.md R213). -/
theorem State.portAtL_toNat (s : State) : s.portAtL.toNat = 4 + s.l.toNat / 4 := by
  rw [State.portAtL]
  generalize s.l = l
  revert l
  decide

theorem State.bitAtL_toNat (s : State) : s.bitAtL.toNat = s.l.toNat % 4 := by
  rw [State.bitAtL]
  generalize s.l = l
  revert l
  decide

/-! ### Calls, returns, interrupts -/

/-- What a push leaves in the location it writes (48_subroutine.md R274). -/
theorem State.push_at_spw (s : State) (ret : CodeAddr) (f : Flags) :
    (s.push ret f).stack.get s.spw.toFin = ⟨ret.extractLsb' 0 13, f⟩ ∧
      (s.push ret f).stk13.get s.spw.toFin = (s.dev.series != .s47 && ret.getLsbD 13) :=
  ⟨vector_get_set_self _ _ _, vector_get_set_self _ _ _⟩

/-- A push leaves every other location alone. -/
theorem State.push_elsewhere (s : State) (ret : CodeAddr) (f : Flags) {j : Fin 16} (h : j ≠ s.spw.toFin) :
    (s.push ret f).stack.get j = s.stack.get j ∧ (s.push ret f).stk13.get j = s.stk13.get j :=
  ⟨vector_get_set_ne _ _ h, vector_get_set_ne _ _ h⟩

/-- The return address a pop gives, as a number (R273). -/
theorem State.popPc_toNat (s : State) :
    s.popPc.toNat =
      if s.dev.series = .s47 then s.popLoc.pc.toNat % 4096
      else s.popLoc.pc.toNat + 8192 * (s.stk13.get s.popIndex.toFin).toNat := by
  unfold State.popPc
  split
  · rename_i hs
    rw [if_pos hs]
    exact (append_toNat _ _).trans (by simp)
  · rename_i hs
    rw [if_neg hs]
    refine (append_toNat (BitVec.ofBool (s.stk13.get s.popIndex.toFin)) s.popLoc.pc).trans ?_
    rw [BitVec.toNat_ofBool]
    omega

/-- A popped return address is at the width of PC. -/
theorem State.popPc_lt (s : State) : s.popPc.toNat < 2 ^ s.dev.series.pcw := by
  have h := s.popLoc.pc.isLt
  have hb := Bool.toNat_le (s.stk13.get s.popIndex.toFin)
  rw [State.popPc_toNat]
  cases s.dev.series <;> simp only [Series.pcw] <;> simp <;> omega

/-- A call goes on exactly when location SPW is usable (R270, R272). -/
theorem State.callTo_eq_next {s t : State} {len : Nat} {target : CodeAddr} :
    s.callTo len target = .next t ↔ s.stackFault s.spw = none ∧
      t = { (s.push (s.npc len) (Config.freeFlags s.freeCount)).jump target with freeCount := s.freeCount + 1 } := by
  rw [State.callTo, checked_eq_next, firstFault_eq_none]
  simp

/-- An interrupt entry goes on exactly when location SPW is usable (60_exceptions.md R304). -/
theorem State.takeInterrupt_eq_next {s t : State} {i : Fin 6} :
    s.takeInterrupt i = .next t ↔ s.stackFault s.spw = none ∧
      t = { ((s.push s.pc s.flags).jump (s.dev.intConfig.vector.get i)).setFlags (Config.freeFlags s.freeCount) with
        eif := false, il := s.il &&& ~~~(1#6 <<< i.val), freeCount := s.freeCount + 1 } := by
  rw [State.takeInterrupt, checked_eq_next, firstFault_eq_none]
  simp

/-- A return from interrupt goes on exactly when the location it reads is usable (49_interrupt_stk13_cpu.md R286). -/
theorem State.returnFromInterrupt_eq_next {s t : State} :
    s.returnFromInterrupt = .next t ↔ s.stackFault s.popIndex = none ∧
      t = { s.pop.setFlags s.popLoc.flag with eif := true } := by
  rw [State.returnFromInterrupt, checked_eq_next, firstFault_eq_none]
  simp

/-- The accepted request is latched and enabled, and EIF is 1. -/
theorem State.acceptable_pending {s : State} {i : Fin 6} (h : s.acceptable = some i) : s.eif = true ∧ s.pending i = true := by
  unfold State.acceptable at h
  split at h
  · exact ⟨‹_›, List.find?_some h⟩
  · simp at h

/-- Where EIF is 1, a request is accepted exactly when one is latched and enabled. -/
theorem State.acceptable_isSome {s : State} (h : s.eif = true) : s.acceptable.isSome = true ↔ ∃ i, s.pending i = true := by
  unfold State.acceptable State.highest
  rw [if_pos h, List.find?_isSome]
  constructor
  · rintro ⟨i, -, hi⟩
    exact ⟨i, hi⟩
  · rintro ⟨i, hi⟩
    have all : ∀ j : Fin 6, j ∈ ([5, 4, 3, 2, 1, 0] : List (Fin 6)) := by decide
    exact ⟨i, List.mem_append_right _ (all i), hi⟩

/-- What one step can do: an interrupt entry, or the instruction at pc, both after the environment's part (R302). -/
theorem State.stepOnce_cases (s : State) :
    (∃ i, s.accepted = some i ∧ s.stepOnce = s.boundary.takeInterrupt i) ∨
      (s.accepted = none ∧ s.stepOnce = s.boundary.fetchExec) := by
  unfold State.stepOnce
  cases h : s.accepted with
  | none => exact .inr ⟨rfl, rfl⟩
  | some i => exact .inl ⟨i, rfl, rfl⟩

/-- An instruction that goes on was fetched from program memory, decoded and executed. -/
theorem State.fetchExec_eq_next {s t : State} (h : s.fetchExec = .next t) :
    ∃ i r, firstFault s.fetchFaults = none ∧ decode s.dev s.fetchBytes = .instr i r ∧ exec i s = .next t := by
  unfold State.fetchExec at h
  split at h
  · cases h
  · split at h
    · exact ⟨_, _, ‹_›, ‹_›, h⟩
    · cases h
    · cases h

/-- A step is the interrupt entry or the instruction, as `accepted` says. -/
theorem step_of_accepted {s : State} {i : Fin 6} (h : s.accepted = some i) : step s = s.boundary.takeInterrupt i := by
  show s.stepOnce = _
  unfold State.stepOnce
  rw [h]

theorem step_of_not_accepted {s : State} (h : s.accepted = none) : step s = s.boundary.fetchExec := by
  show s.stepOnce = _
  unfold State.stepOnce
  rw [h]

/-- A run of `k + 1` steps is a step and a run of `k` (the form an induction over runs needs). -/
theorem run_succ_next {k : Nat} {s t : State} (h : Host.Core.run Sys2Proof.core (k + 1) s = .next t) :
    ∃ u, step s = .next u ∧ Host.Core.run Sys2Proof.core k u = .next t := by
  have unfolded : ∀ (M : Host.Core) (r : M.State), M.run (k + 1) r =
      match M.step r with
      | .next u => M.run k u
      | .fault e => .fault e
      | .refused e => .refused e := fun _ _ => rfl
  have h' := (unfolded Sys2Proof.core s).symm.trans h
  split at h'
  · exact ⟨_, ‹_›, h'⟩
  · cases h'
  · cases h'

end Sys2Proof.Machine
end

