-- ==== Sys2Proof/Laws/PerInstr.lean ====
section
/-! SUPPORT. Facts about every instruction as syntax, one lemma per constructor. -/

namespace Sys2Proof.Laws

/-- The words the encoder writes are as long as the tables say the row is (30_encoding.md R80 to R82, R91). -/
def EncodeLength.Statement (i : Instr) : Prop := ∀ d bs, encode d i = some bs → bs.length = i.length

theorem EncodeLength.ldAAtHL : EncodeLength.Statement .ldAAtHL :=
  by rintro _ _ ⟨⟩; rfl

theorem EncodeLength.ldAX (x : Byte) : EncodeLength.Statement (.ldAX x) :=
  by rintro _ _ ⟨⟩; rfl

theorem EncodeLength.ldHLX (x : Byte) : EncodeLength.Statement (.ldHLX x) :=
  by rintro _ _ ⟨⟩; rfl

theorem EncodeLength.ldlAAtDC : EncodeLength.Statement .ldlAAtDC :=
  by rintro _ _ ⟨⟩; rfl

theorem EncodeLength.ldhAAtDCInc : EncodeLength.Statement .ldhAAtDCInc :=
  by rintro _ _ ⟨⟩; rfl

theorem EncodeLength.stAAtHL : EncodeLength.Statement .stAAtHL :=
  by rintro _ _ ⟨⟩; rfl

theorem EncodeLength.stAAtHLInc : EncodeLength.Statement .stAAtHLInc :=
  by rintro _ _ ⟨⟩; rfl

theorem EncodeLength.stAAtHLDec : EncodeLength.Statement .stAAtHLDec :=
  by rintro _ _ ⟨⟩; rfl

theorem EncodeLength.stAX (x : Byte) : EncodeLength.Statement (.stAX x) :=
  by rintro _ _ ⟨⟩; rfl

theorem EncodeLength.stKAtHLInc (k : Nibble) : EncodeLength.Statement (.stKAtHLInc k) :=
  by rintro _ _ ⟨⟩; rfl

theorem EncodeLength.stKY (k : Nibble) (y : Nibble) : EncodeLength.Statement (.stKY k y) :=
  by rintro _ _ ⟨⟩; rfl

theorem EncodeLength.ldAK (k : Nibble) : EncodeLength.Statement (.ldAK k) :=
  by rintro _ _ ⟨⟩; rfl

theorem EncodeLength.ldHK (k : Nibble) : EncodeLength.Statement (.ldHK k) :=
  by rintro _ _ ⟨⟩; rfl

theorem EncodeLength.ldLK (k : Nibble) : EncodeLength.Statement (.ldLK k) :=
  by rintro _ _ ⟨⟩; rfl

theorem EncodeLength.ldHLJK (j : Nibble) (k : Nibble) : EncodeLength.Statement (.ldHLJK j k) :=
  by rintro _ _ ⟨⟩; rfl

theorem EncodeLength.movHA : EncodeLength.Statement .movHA :=
  by rintro _ _ ⟨⟩; rfl

theorem EncodeLength.movLA : EncodeLength.Statement .movLA :=
  by rintro _ _ ⟨⟩; rfl

theorem EncodeLength.xchAAtHL : EncodeLength.Statement .xchAAtHL :=
  by rintro _ _ ⟨⟩; rfl

theorem EncodeLength.xchAX (x : Byte) : EncodeLength.Statement (.xchAX x) :=
  by rintro _ _ ⟨⟩; rfl

theorem EncodeLength.xchHLX (x : Byte) : EncodeLength.Statement (.xchHLX x) :=
  by rintro _ _ ⟨⟩; rfl

theorem EncodeLength.xchAH : EncodeLength.Statement .xchAH :=
  by rintro _ _ ⟨⟩; rfl

theorem EncodeLength.xchAL : EncodeLength.Statement .xchAL :=
  by rintro _ _ ⟨⟩; rfl

theorem EncodeLength.inPA (p : Nibble) : EncodeLength.Statement (.inPA p) :=
  by rintro _ _ ⟨⟩; rfl

theorem EncodeLength.inPAHigh (p : Nibble) : EncodeLength.Statement (.inPAHigh p) :=
  by rintro _ _ ⟨⟩; rfl

theorem EncodeLength.inPAtHL (p : Nibble) : EncodeLength.Statement (.inPAtHL p) :=
  by rintro _ _ ⟨⟩; rfl

theorem EncodeLength.inPAtHLHigh (p : Nibble) : EncodeLength.Statement (.inPAtHLHigh p) :=
  by rintro _ _ ⟨⟩; rfl

theorem EncodeLength.outAP (p : BitVec 5) : EncodeLength.Statement (.outAP p) :=
  by rintro _ _ ⟨⟩; rfl

theorem EncodeLength.outAtHLP (p : BitVec 5) : EncodeLength.Statement (.outAtHLP p) :=
  by rintro _ _ ⟨⟩; rfl

theorem EncodeLength.outKP (k : Nibble) (p : Nibble) : EncodeLength.Statement (.outKP k p) :=
  by rintro _ _ ⟨⟩; rfl

theorem EncodeLength.outbAtHL : EncodeLength.Statement .outbAtHL :=
  by rintro _ _ ⟨⟩; rfl

theorem EncodeLength.cmprAAtHL : EncodeLength.Statement .cmprAAtHL :=
  by rintro _ _ ⟨⟩; rfl

theorem EncodeLength.cmprAX (x : Byte) : EncodeLength.Statement (.cmprAX x) :=
  by rintro _ _ ⟨⟩; rfl

theorem EncodeLength.cmprYK (y : Nibble) (k : Nibble) : EncodeLength.Statement (.cmprYK y k) :=
  by rintro _ _ ⟨⟩; rfl

theorem EncodeLength.cmprAK (k : Nibble) : EncodeLength.Statement (.cmprAK k) :=
  by rintro _ _ ⟨⟩; rfl

theorem EncodeLength.cmprHK (k : Nibble) : EncodeLength.Statement (.cmprHK k) :=
  by rintro _ _ ⟨⟩; rfl

theorem EncodeLength.cmprLK (k : Nibble) : EncodeLength.Statement (.cmprLK k) :=
  by rintro _ _ ⟨⟩; rfl

theorem EncodeLength.addAAtHL : EncodeLength.Statement .addAAtHL :=
  by rintro _ _ ⟨⟩; rfl

theorem EncodeLength.addcAAtHL : EncodeLength.Statement .addcAAtHL :=
  by rintro _ _ ⟨⟩; rfl

theorem EncodeLength.addAtHLK (k : Nibble) : EncodeLength.Statement (.addAtHLK k) :=
  by rintro _ _ ⟨⟩; rfl

theorem EncodeLength.addYK (y : Nibble) (k : Nibble) : EncodeLength.Statement (.addYK y k) :=
  by rintro _ _ ⟨⟩; rfl

theorem EncodeLength.addAK (k : Nibble) : EncodeLength.Statement (.addAK k) :=
  by rintro _ _ ⟨⟩; rfl

theorem EncodeLength.addHK (k : Nibble) : EncodeLength.Statement (.addHK k) :=
  by rintro _ _ ⟨⟩; rfl

theorem EncodeLength.addLK (k : Nibble) : EncodeLength.Statement (.addLK k) :=
  by rintro _ _ ⟨⟩; rfl

theorem EncodeLength.subrcAAtHL : EncodeLength.Statement .subrcAAtHL :=
  by rintro _ _ ⟨⟩; rfl

theorem EncodeLength.subrAtHLK (k : Nibble) : EncodeLength.Statement (.subrAtHLK k) :=
  by rintro _ _ ⟨⟩; rfl

theorem EncodeLength.subrAK (k : Nibble) : EncodeLength.Statement (.subrAK k) :=
  by rintro _ _ ⟨⟩; rfl

theorem EncodeLength.incAtHL : EncodeLength.Statement .incAtHL :=
  by rintro _ _ ⟨⟩; rfl

theorem EncodeLength.decAtHL : EncodeLength.Statement .decAtHL :=
  by rintro _ _ ⟨⟩; rfl

theorem EncodeLength.incA : EncodeLength.Statement .incA :=
  by rintro _ _ ⟨⟩; rfl

theorem EncodeLength.decA : EncodeLength.Statement .decA :=
  by rintro _ _ ⟨⟩; rfl

theorem EncodeLength.incL : EncodeLength.Statement .incL :=
  by rintro _ _ ⟨⟩; rfl

theorem EncodeLength.decL : EncodeLength.Statement .decL :=
  by rintro _ _ ⟨⟩; rfl

theorem EncodeLength.andAAtHL : EncodeLength.Statement .andAAtHL :=
  by rintro _ _ ⟨⟩; rfl

theorem EncodeLength.andAtHLK (k : Nibble) : EncodeLength.Statement (.andAtHLK k) :=
  by rintro _ _ ⟨⟩; rfl

theorem EncodeLength.andAK (k : Nibble) : EncodeLength.Statement (.andAK k) :=
  by rintro _ _ ⟨⟩; rfl

theorem EncodeLength.orAAtHL : EncodeLength.Statement .orAAtHL :=
  by rintro _ _ ⟨⟩; rfl

theorem EncodeLength.orAtHLK (k : Nibble) : EncodeLength.Statement (.orAtHLK k) :=
  by rintro _ _ ⟨⟩; rfl

theorem EncodeLength.orAK (k : Nibble) : EncodeLength.Statement (.orAK k) :=
  by rintro _ _ ⟨⟩; rfl

theorem EncodeLength.xorAAtHL : EncodeLength.Statement .xorAAtHL :=
  by rintro _ _ ⟨⟩; rfl

theorem EncodeLength.rolcA : EncodeLength.Statement .rolcA :=
  by rintro _ _ ⟨⟩; rfl

theorem EncodeLength.rorcA : EncodeLength.Statement .rorcA :=
  by rintro _ _ ⟨⟩; rfl

theorem EncodeLength.clrAtHLB (b : BitVec 2) : EncodeLength.Statement (.clrAtHLB b) :=
  by rintro _ _ ⟨⟩; rfl

theorem EncodeLength.clrYB (y : Nibble) (b : BitVec 2) : EncodeLength.Statement (.clrYB y b) :=
  by rintro _ _ ⟨⟩; rfl

theorem EncodeLength.clrPB (p : Nibble) (b : BitVec 2) : EncodeLength.Statement (.clrPB p b) :=
  by rintro _ _ ⟨⟩; rfl

theorem EncodeLength.clrAtL : EncodeLength.Statement .clrAtL :=
  by rintro _ _ ⟨⟩; rfl

theorem EncodeLength.setAtHLB (b : BitVec 2) : EncodeLength.Statement (.setAtHLB b) :=
  by rintro _ _ ⟨⟩; rfl

theorem EncodeLength.setYB (y : Nibble) (b : BitVec 2) : EncodeLength.Statement (.setYB y b) :=
  by rintro _ _ ⟨⟩; rfl

theorem EncodeLength.setPB (p : Nibble) (b : BitVec 2) : EncodeLength.Statement (.setPB p b) :=
  by rintro _ _ ⟨⟩; rfl

theorem EncodeLength.setAtL : EncodeLength.Statement .setAtL :=
  by rintro _ _ ⟨⟩; rfl

theorem EncodeLength.testAtHLB (b : BitVec 2) : EncodeLength.Statement (.testAtHLB b) :=
  by rintro _ _ ⟨⟩; rfl

theorem EncodeLength.testYB (y : Nibble) (b : BitVec 2) : EncodeLength.Statement (.testYB y b) :=
  by rintro _ _ ⟨⟩; rfl

theorem EncodeLength.testpYB (y : Nibble) (b : BitVec 2) : EncodeLength.Statement (.testpYB y b) :=
  by rintro _ _ ⟨⟩; rfl

theorem EncodeLength.testPB (p : Nibble) (b : BitVec 2) : EncodeLength.Statement (.testPB p b) :=
  by rintro _ _ ⟨⟩; rfl

theorem EncodeLength.testpPB (p : Nibble) (b : BitVec 2) : EncodeLength.Statement (.testpPB p b) :=
  by rintro _ _ ⟨⟩; rfl

theorem EncodeLength.testAtL : EncodeLength.Statement .testAtL :=
  by rintro _ _ ⟨⟩; rfl

theorem EncodeLength.testAB (b : BitVec 2) : EncodeLength.Statement (.testAB b) :=
  by rintro _ _ ⟨⟩; rfl

theorem EncodeLength.testCF : EncodeLength.Statement .testCF :=
  by rintro _ _ ⟨⟩; rfl

theorem EncodeLength.testpCF : EncodeLength.Statement .testpCF :=
  by rintro _ _ ⟨⟩; rfl

theorem EncodeLength.testpZF : EncodeLength.Statement .testpZF :=
  by rintro _ _ ⟨⟩; rfl

theorem EncodeLength.clrGF : EncodeLength.Statement .clrGF :=
  by rintro _ _ ⟨⟩; rfl

theorem EncodeLength.setGF : EncodeLength.Statement .setGF :=
  by rintro _ _ ⟨⟩; rfl

theorem EncodeLength.testpGF : EncodeLength.Statement .testpGF :=
  by rintro _ _ ⟨⟩; rfl

theorem EncodeLength.clrDMB : EncodeLength.Statement .clrDMB :=
  by rintro _ _ ⟨⟩; rfl

theorem EncodeLength.setDMB : EncodeLength.Statement .setDMB :=
  by rintro _ _ ⟨⟩; rfl

theorem EncodeLength.testDMB : EncodeLength.Statement .testDMB :=
  by rintro _ _ ⟨⟩; rfl

theorem EncodeLength.testpDMB : EncodeLength.Statement .testpDMB :=
  by rintro _ _ ⟨⟩; rfl

theorem EncodeLength.clrDMB0 : EncodeLength.Statement .clrDMB0 :=
  by rintro _ _ ⟨⟩; rfl

theorem EncodeLength.setDMB0 : EncodeLength.Statement .setDMB0 :=
  by rintro _ _ ⟨⟩; rfl

theorem EncodeLength.testDMB0 : EncodeLength.Statement .testDMB0 :=
  by rintro _ _ ⟨⟩; rfl

theorem EncodeLength.testpDMB0 : EncodeLength.Statement .testpDMB0 :=
  by rintro _ _ ⟨⟩; rfl

theorem EncodeLength.clrDMB1 : EncodeLength.Statement .clrDMB1 :=
  by rintro _ _ ⟨⟩; rfl

theorem EncodeLength.setDMB1 : EncodeLength.Statement .setDMB1 :=
  by rintro _ _ ⟨⟩; rfl

theorem EncodeLength.testDMB1 : EncodeLength.Statement .testDMB1 :=
  by rintro _ _ ⟨⟩; rfl

theorem EncodeLength.testpDMB1 : EncodeLength.Statement .testpDMB1 :=
  by rintro _ _ ⟨⟩; rfl

theorem EncodeLength.ldDMBK (k : BitVec 2) : EncodeLength.Statement (.ldDMBK k) := by
  intro d bs h
  simp only [encode] at h
  split at h
  · cases h; rfl
  · cases h

theorem EncodeLength.ldDMBAtHL : EncodeLength.Statement .ldDMBAtHL :=
  by rintro _ _ ⟨⟩; rfl

theorem EncodeLength.movADMB : EncodeLength.Statement .movADMB :=
  by rintro _ _ ⟨⟩; rfl

theorem EncodeLength.movDMBA : EncodeLength.Statement .movDMBA :=
  by rintro _ _ ⟨⟩; rfl

theorem EncodeLength.stDMBAtHL : EncodeLength.Statement .stDMBAtHL :=
  by rintro _ _ ⟨⟩; rfl

theorem EncodeLength.bss (d : BitVec 6) : EncodeLength.Statement (.bss d) :=
  by rintro _ _ ⟨⟩; rfl

theorem EncodeLength.bs (e : BitVec 12) : EncodeLength.Statement (.bs e) :=
  by rintro _ _ ⟨⟩; rfl

theorem EncodeLength.bslBank0 (e : BitVec 12) : EncodeLength.Statement (.bslBank0 e) :=
  by rintro _ _ ⟨⟩; rfl

theorem EncodeLength.bslBank1 (e : BitVec 12) : EncodeLength.Statement (.bslBank1 e) :=
  by rintro _ _ ⟨⟩; rfl

theorem EncodeLength.bslBank2 (e : BitVec 12) : EncodeLength.Statement (.bslBank2 e) :=
  by rintro _ _ ⟨⟩; rfl

theorem EncodeLength.bslBank3 (e : BitVec 12) : EncodeLength.Statement (.bslBank3 e) :=
  by rintro _ _ ⟨⟩; rfl

theorem EncodeLength.calls (n : Nibble) : EncodeLength.Statement (.calls n) :=
  by rintro _ _ ⟨⟩; rfl

theorem EncodeLength.callss (n : Nibble) : EncodeLength.Statement (.callss n) :=
  by rintro _ _ ⟨⟩; rfl

theorem EncodeLength.call (a : BitVec 11) : EncodeLength.Statement (.call a) :=
  by rintro _ _ ⟨⟩; rfl

theorem EncodeLength.ret : EncodeLength.Statement .ret :=
  by rintro _ _ ⟨⟩; rfl

theorem EncodeLength.xchAEIR : EncodeLength.Statement .xchAEIR :=
  by rintro _ _ ⟨⟩; rfl

theorem EncodeLength.eiclr (r : BitVec 6) : EncodeLength.Statement (.eiclr r) :=
  by rintro _ _ ⟨⟩; rfl

theorem EncodeLength.ei : EncodeLength.Statement .ei :=
  by rintro _ _ ⟨⟩; rfl

theorem EncodeLength.diclr (r : BitVec 6) : EncodeLength.Statement (.diclr r) :=
  by rintro _ _ ⟨⟩; rfl

theorem EncodeLength.di : EncodeLength.Statement .di :=
  by rintro _ _ ⟨⟩; rfl

theorem EncodeLength.clrIL (r : BitVec 6) : EncodeLength.Statement (.clrIL r) :=
  by rintro _ _ ⟨⟩; rfl

theorem EncodeLength.reti : EncodeLength.Statement .reti :=
  by rintro _ _ ⟨⟩; rfl

theorem EncodeLength.clrSTK13 : EncodeLength.Statement .clrSTK13 := by
  intro d bs h
  simp only [encode, Option.map_eq_some_iff] at h
  obtain ⟨_, _, rfl⟩ := h
  rfl

theorem EncodeLength.setSTK13 : EncodeLength.Statement .setSTK13 := by
  intro d bs h
  simp only [encode, Option.map_eq_some_iff] at h
  obtain ⟨_, _, rfl⟩ := h
  rfl

theorem EncodeLength.movASPW13 : EncodeLength.Statement .movASPW13 :=
  by rintro _ _ ⟨⟩; rfl

theorem EncodeLength.movSTK13A : EncodeLength.Statement .movSTK13A :=
  by rintro _ _ ⟨⟩; rfl

theorem EncodeLength.nop : EncodeLength.Statement .nop :=
  by rintro _ _ ⟨⟩; rfl

end Sys2Proof.Laws
end

