-- ==== Sys2Proof/Tests/Slice0.lean ====
section
/-! SUPPORT. Tests: what `wellFormed` refuses, one word for each constructor, one or two vectors of 95_test_vectors.md for each
instruction (the id is the vector's; E are the source's own examples), and a witness for the hypotheses of each statement. -/

namespace Sys2Proof.Tests

open Sys2Proof Sys2Proof.Machine

/-- A machine of the series with the vectors' parameters. -/
def on' (r : Series) (f : Device → Device) : State :=
  State.resetOn (f { Device.default with series := r, romSize := 2 ^ r.pcw })

/-- The same, with every parameter at the vectors' default. -/
def on (r : Series) : State := on' r fun d => d

/-- One step with the bytes at pc, read through `f`. -/
def stepped {α : Type} (s : State) (bs : List Byte) (f : State → α) : Option α :=
  match step (s.loadRom s.pc bs) with
  | .next t => some (f t)
  | _ => none

/-- The fault of one step with the bytes at pc. -/
def stopped (s : State) (bs : List Byte) : Option Fault :=
  match step (s.loadRom s.pc bs) with
  | .fault f => some f
  | _ => none

/-- Each list of bytes is read as the instruction beside it, on a device whose encoding parameters have the suggested values. -/
def readAs (r : Series) (rows : List (List Byte × Instr)) : Bool :=
  rows.all fun w =>
    decide (decode { Device.default with series := r, stk13Op3 := some 0x84, ldDmbImmEnc := .suggested } w.1 = .instr w.2 [])

/-! ### Well-formed instructions -/

theorem test_wellFormed_accepts : Instr.nop.wellFormed Device.default = true := by decide

/-- The series check: TLCS-470A has no general flag (R90). -/
theorem test_wellFormed_series : Instr.clrGF.wellFormed Device.default = false := by decide

/-- The spelling check: `EI` has no words of its own (R92). -/
theorem test_wellFormed_spelling : Instr.ei.wellFormed Device.default = false := by decide

/-- The parameter check: `CLR STK13` has no encoding by default (R88). -/
theorem test_wellFormed_parameter : Instr.clrSTK13.wellFormed Device.default = false := by decide

/-- The overlap check: `SET %9, 3` is `SET DMB0` on TLCS-470A (R89 (a)). -/
theorem test_wellFormed_port_bit : (Instr.setPB 9 3).wellFormed Device.default = false := by decide

/-- The overlap check: `OUT A, %04H` is `MOV A, SPW13` on TLCS-470A (R89 (c)). -/
theorem test_wellFormed_output : (Instr.outAP 4).wellFormed Device.default = false := by decide

/-- Table 1 (a) of 00_scope.md R2: 90, 92 and 105 basic machine instructions. -/
theorem test_instruction_counts :
    ([.s47, .s470, .s470A] : List Series).map (fun r => (allRows.filter fun i => i.onSeries r && i.info.counted).length) =
      [90, 92, 105] := by decide

/-- The same by length and cycles: the rows of Table 1 (a). -/
theorem test_cycle_counts :
    ([.s47, .s470, .s470A] : List Series).map (fun r =>
      ([(1, 1), (1, 2), (2, 2), (3, 3)] : List (Nat × Nat)).map fun c =>
        (allRows.filter fun i => i.onSeries r && i.info.counted && i.length == c.1 && i.cycles == c.2).length) =
      [[40, 11, 39, 0], [37, 11, 43, 1], [37, 11, 45, 12]] := by decide

/-! ### Decoding: each word is the encoding column of its row with the fields x = B5H, k = BH, j = 5H, y = 6H, p = DH (1DH for OUT), b = 2,
d = 2CH, e = B3AH, a = 371H, n = 3H, r = 2CH; the words of a second spelling are read as the instruction it stands for -/

theorem test_decode_dataTransfer :
    readAs .s470A [([0x0C], .ldAAtHL), ([0x3C, 0xB5], .ldAX 0xB5), ([0x28, 0xB5], .ldHLX 0xB5), ([0x33], .ldlAAtDC),
      ([0x32], .ldhAAtDCInc), ([0x0F], .stAAtHL), ([0x1A], .stAAtHLInc), ([0x1B], .stAAtHLDec),
      ([0x3F, 0xB5], .stAX 0xB5), ([0xFB], .stKAtHLInc 0xB), ([0x2D, 0xB6], .stKY 0xB 6), ([0x4B], .ldAK 0xB),
      ([0xCB], .ldHK 0xB), ([0xEB], .ldLK 0xB), ([0x10], .movHA), ([0x11], .movLA)] = true := by decide

theorem test_decode_exchange :
    readAs .s470A [([0x0D], .xchAAtHL), ([0x3D, 0xB5], .xchAX 0xB5), ([0x29, 0xB5], .xchHLX 0xB5), ([0x30], .xchAH),
      ([0x31], .xchAL)] = true := by decide

theorem test_decode_inputOutput :
    readAs .s470A [([0x3A, 0x2D], .inPA 0xD), ([0x3A, 0x0D], .inPAHigh 0xD), ([0x3A, 0x6D], .inPAtHL 0xD),
      ([0x3A, 0x4D], .inPAtHLHigh 0xD), ([0x3A, 0xAD], .outAP 0x1D), ([0x3A, 0xED], .outAtHLP 0x1D),
      ([0x2C, 0xBD], .outKP 0xB 0xD), ([0x12], .outbAtHL)] = true := by decide

theorem test_decode_arithmetic :
    readAs .s470A [([0x16], .cmprAAtHL), ([0x3E, 0xB5], .cmprAX 0xB5), ([0x2E, 0xB6], .cmprYK 6 0xB), ([0xDB], .cmprAK 0xB),
      ([0x38, 0xDB], .cmprHK 0xB), ([0x38, 0x9B], .cmprLK 0xB), ([0x17], .addAAtHL), ([0x15], .addcAAtHL),
      ([0x38, 0x4B], .addAtHLK 0xB), ([0x2F, 0xB6], .addYK 6 0xB), ([0x38, 0x0B], .addAK 0xB),
      ([0x38, 0xCB], .addHK 0xB), ([0x38, 0x8B], .addLK 0xB), ([0x14], .subrcAAtHL), ([0x38, 0x5B], .subrAtHLK 0xB),
      ([0x38, 0x1B], .subrAK 0xB), ([0x0A], .incAtHL), ([0x0B], .decAtHL), ([0x08], .incA), ([0x09], .decA),
      ([0x18], .incL), ([0x19], .decL), ([0x1E], .andAAtHL), ([0x38, 0x7B], .andAtHLK 0xB),
      ([0x38, 0x3B], .andAK 0xB), ([0x1D], .orAAtHL), ([0x38, 0x6B], .orAtHLK 0xB), ([0x38, 0x2B], .orAK 0xB),
      ([0x1F], .xorAAtHL)] = true := by decide

theorem test_decode_rotation :
    readAs .s470A [([0x05], .rolcA), ([0x07], .rorcA)] = true := by decide

theorem test_decode_bitManipulation :
    readAs .s470A [([0x56], .clrAtHLB 2), ([0x39, 0x66], .clrYB 6 2), ([0x3B, 0x6D], .clrPB 0xD 2), ([0x35], .clrAtL),
      ([0x52], .setAtHLB 2), ([0x39, 0x26], .setYB 6 2), ([0x3B, 0x2D], .setPB 0xD 2), ([0x34], .setAtL),
      ([0x5A], .testAtHLB 2), ([0x39, 0xA6], .testYB 6 2), ([0x39, 0xE6], .testpYB 6 2),
      ([0x3B, 0xAD], .testPB 0xD 2), ([0x3B, 0xED], .testpPB 0xD 2), ([0x37], .testAtL),
      ([0x5E], .testAB 2)] = true := by decide

theorem test_decode_flagBank :
    readAs .s470A [([0x06], .testCF), ([0x04], .testpCF), ([0x0E], .testpZF), ([0x3B, 0x79], .clrDMB0),
      ([0x3B, 0x39], .setDMB0),
      ([0x3B, 0xB9], .testDMB0), ([0x3B, 0xF9], .testpDMB0), ([0x03, 0x3B, 0x59], .clrDMB1),
      ([0x03, 0x3B, 0x19], .setDMB1), ([0x03, 0x3B, 0x99], .testDMB1), ([0x03, 0x3B, 0xD9], .testpDMB1),
      ([0x03, 0x2C, 0x29], .ldDMBK 2), ([0x03, 0x3A, 0xE9], .ldDMBAtHL), ([0x03, 0x3A, 0xA9], .movADMB),
      ([0x03, 0x3A, 0x29], .movDMBA), ([0x03, 0x3A, 0x69], .stDMBAtHL)] = true := by decide

theorem test_decode_flagBank_tlcs47 :
    readAs .s47 [([0x02], .clrGF), ([0x03], .setGF), ([0x01], .testpGF)] = true := by decide

theorem test_decode_flagBank_tlcs470 :
    readAs .s470 [([0x3B, 0x79], .clrDMB), ([0x3B, 0x39], .setDMB), ([0x3B, 0xB9], .testDMB),
      ([0x3B, 0xF9], .testpDMB)] = true := by decide

theorem test_decode_branch :
    readAs .s470A [([0xAC], .bss 0x2C), ([0x6B, 0x3A], .bs 0xB3A), ([0x02, 0x6B, 0x3A], .bslBank0 0xB3A),
      ([0x03, 0x6B, 0x3A], .bslBank1 0xB3A), ([0x1C, 0x6B, 0x3A], .bslBank2 0xB3A),
      ([0x01, 0x6B, 0x3A], .bslBank3 0xB3A)] = true := by decide

theorem test_decode_subroutine :
    readAs .s470A [([0x73], .calls 3), ([0x73], .calls 3), ([0x23, 0x71], .call 0x371), ([0x2A], .ret)] = true := by decide

theorem test_decode_interruptControl :
    readAs .s470A [([0x13], .xchAEIR), ([0x36, 0x6C], .eiclr 0x2C), ([0x36, 0x7F], .eiclr 0x3F),
      ([0x36, 0xAC], .diclr 0x2C),
      ([0x36, 0xBF], .diclr 0x3F), ([0x36, 0xEC], .clrIL 0x2C), ([0x2B], .reti), ([0x02, 0x3A, 0x84], .clrSTK13),
      ([0x03, 0x3A, 0x84], .setSTK13), ([0x3A, 0x84], .movASPW13), ([0x3A, 0x04], .movSTK13A),
      ([0x00], .nop)] = true := by decide

/-- A table word is read with the first byte most significant (INDEX.md; log 21). -/
theorem test_table_word : decodeTableWord 16 0x3CB5 = some (.ldAX 0xB5) := by decide

/-- ... and the same word, placed by `withFetchWord`, runs as the first instruction after reset. -/
theorem test_withFetchWord : (match step (State.reset.withFetchWord 8 0x4B) with
    | .next t => some (t.a, t.pc)
    | _ => none) = some (0xB, 1) := by decide

/-! ### Vectors -/

/-- DT1: `LD A, @HL` -/
theorem test_ldAAtHL_DT1 :
    stepped { on .s47 with a := 9, h := 3, l := 4, cf := true } [0x0C]
        (fun t => (t.a, t.cf, t.zf, t.sf, t.pc)) =
      some (0, true, true, true, 1) := by decide

/-- DT2: `LD A, 5AH` -/
theorem test_ldAX_DT2 :
    stepped { on .s470 with zf := true, dmb := 1, ram := [(0x5A, 2), (0x15A, 7)] } [0x3C, 0x5A]
        (fun t => (t.a, t.cf, t.zf, t.sf, t.pc)) =
      some (7, false, false, true, 2) := by decide

/-- E1: `LD HL, 74H` -/
theorem test_ldHLX_E1 :
    stepped { on .s470 with ram := [(0x74, 3), (0x75, 9)] } [0x28, 0x74]
        (fun t => (t.h, t.l, t.sf, t.pc)) =
      some (9, 3, true, 2) := by decide

/-- DT3: `LD HL, 7CH` -/
theorem test_ldHLX_DT3 :
    stepped { on .s470A with dmb := 3, ram := [(0x37C, 0xA), (0x37D, 5)] } [0x28, 0x7C]
        (fun t => ((t.h, t.l, t.cf), (t.zf, t.sf, t.pc))) =
      some ((5, 0xA, false), (false, true, 2)) := by decide

/-- DT5: `LDL A, @DC` -/
theorem test_ldlAAtDC_DT5 :
    stepped { on .s47 with zf := true, dc := 0xC70, rom := [(0xC70, 0x9E)] } [0x33]
        (fun t => (t.a, t.cf, t.zf, t.sf, t.pc)) =
      some (0xE, false, false, true, 1) := by decide

/-- DT6: `LDL A, @DC` -/
theorem test_ldlAAtDC_DT6 :
    stepped { on .s470 with zf := true, dc := 0xC70, rom := [(0x1C70, 0x9E)] } [0x33]
        (fun t => (t.a, t.cf, t.zf, t.sf, t.pc)) =
      some (0xE, false, false, true, 1) := by decide

/-- E2: `LDH A, @DC+` -/
theorem test_ldhAAtDCInc_E2 :
    stepped { on .s470 with dc := 0xC70, rom := [(0x1C70, 0x9E)] } [0x32]
        (fun t => (t.a, t.zf, t.sf, t.dc, t.pc)) =
      some (9, false, true, 0xC71, 1) := by decide

/-- DT8: `LDH A, @DC+` -/
theorem test_ldhAAtDCInc_DT8 :
    stepped { on .s470A with a := 5, dtb := 2, dc := 0xFFF, rom := [(0x2FFF, 0xC0)] } [0x32]
        (fun t => ((t.a, t.cf, t.zf), (t.sf, t.dc, t.pc))) =
      some ((0xC, false, false), (true, 0, 1)) := by decide

/-- DT10: `ST A, @HL` -/
theorem test_stAAtHL_DT10 :
    stepped { on .s47 with h := 1, l := 2, ram := [(0x12, 9)] } [0x0F]
        (fun t => (t.cf, t.zf, t.sf, t.readRam ⟨0, 0x12⟩, t.pc)) =
      some (false, false, true, 0, 1) := by decide

/-- DT11: `ST A, @HL+` -/
theorem test_stAAtHLInc_DT11 :
    stepped { on .s47 with a := 6, h := 1, l := 0xF, cf := true, sf := true } [0x1A]
        (fun t => ((t.l, t.cf, t.zf), (t.sf, t.readRam ⟨0, 0x1F⟩, t.pc))) =
      some ((0, true, true), (false, 6, 1)) := by decide

/-- DT12: `ST A, @HL+` -/
theorem test_stAAtHLInc_DT12 :
    stepped { on .s47 with a := 6, h := 1, l := 3, cf := true, zf := true } [0x1A]
        (fun t => ((t.l, t.cf, t.zf), (t.sf, t.readRam ⟨0, 0x13⟩, t.pc))) =
      some ((4, true, false), (true, 6, 1)) := by decide

/-- E4: `ST A, @HL-` -/
theorem test_stAAtHLDec_E4 :
    stepped { on .s470 with a := 3, h := 7, dmb := 1 } [0x1B]
        (fun t => (t.l, t.zf, t.sf, t.readRam ⟨1, 0x70⟩, t.pc)) =
      some (0xF, false, false, 3, 1) := by decide

/-- DT14: `ST A, @HL-` -/
theorem test_stAAtHLDec_DT14 :
    stepped { on .s47 with a := 6, h := 1, cf := true, zf := true, sf := true } [0x1B]
        (fun t => ((t.l, t.cf, t.zf), (t.sf, t.readRam ⟨0, 0x10⟩, t.pc))) =
      some ((0xF, true, false), (false, 6, 1)) := by decide

/-- DT15: `ST A, 20H` -/
theorem test_stAX_DT15 :
    stepped { on .s470 with a := 0xC } [0x3F, 0x20]
        (fun t => (t.cf, t.zf, t.sf, t.readRam ⟨0, 0x20⟩, t.pc)) =
      some (false, false, true, 0xC, 2) := by decide

/-- E5: `ST #0, @HL+` -/
theorem test_stKAtHLInc_E5 :
    stepped { on .s47 with h := 2, l := 0xF } [0xF0]
        (fun t => (t.l, t.zf, t.sf, t.readRam ⟨0, 0x2F⟩, t.pc)) =
      some (0, true, false, 0, 1) := by decide

/-- DT17: `ST #0, @HL+` -/
theorem test_stKAtHLInc_DT17 :
    stepped { on .s47 with h := 2, l := 0xE, zf := true, ram := [(0x2E, 7)] } [0xF0]
        (fun t => ((t.l, t.cf, t.zf), (t.sf, t.readRam ⟨0, 0x2E⟩, t.pc))) =
      some ((0xF, false, false), (true, 0, 1)) := by decide

/-- DT18: `ST #0AH, 3` -/
theorem test_stKY_DT18 :
    stepped { on .s470 with dmb := 1 } [0x2D, 0xA3]
        (fun t => (t.cf, t.zf, t.sf, t.readRam ⟨0, 3⟩, t.pc)) =
      some (false, false, true, 0xA, 2) := by decide

/-- DT19: `LD A, #0` -/
theorem test_ldAK_DT19 :
    stepped { on .s47 with a := 7, cf := true } [0x40]
        (fun t => (t.a, t.cf, t.zf, t.sf, t.pc)) =
      some (0, true, true, true, 1) := by decide

/-- DT20: `LD A, #0FH` -/
theorem test_ldAK_DT20 :
    stepped { on .s47 with cf := true, zf := true } [0x4F]
        (fun t => (t.a, t.cf, t.zf, t.sf, t.pc)) =
      some (0xF, true, false, true, 1) := by decide

/-- DT21: `LD H, #9` -/
theorem test_ldHK_DT21 :
    stepped { on .s47 with cf := true, zf := true } [0xC9]
        (fun t => (t.h, t.cf, t.zf, t.sf, t.pc)) =
      some (9, true, true, true, 1) := by decide

/-- DT22: `LD L, #0` -/
theorem test_ldLK_DT22 :
    stepped { on .s47 with l := 5, cf := true } [0xE0]
        (fun t => (t.l, t.cf, t.zf, t.sf, t.pc)) =
      some (0, true, false, true, 1) := by decide

/-- DT23: `MOV H, A` -/
theorem test_movHA_DT23 :
    stepped { on .s47 with a := 1, cf := true } [0x10]
        (fun t => (t.a, t.cf, t.zf, t.sf, t.pc)) =
      some (0, true, true, true, 1) := by decide

/-- DT24: `MOV L, A` -/
theorem test_movLA_DT24 :
    stepped { on .s47 with a := 1, l := 0xD, cf := true, zf := true } [0x11]
        (fun t => (t.a, t.cf, t.zf, t.sf, t.pc)) =
      some (0xD, true, false, true, 1) := by decide

/-- XC1: `XCH A, @HL` -/
theorem test_xchAAtHL_XC1 :
    stepped { on .s47 with a := 0xA, h := 4, l := 1 } [0x0D]
        (fun t => ((t.a, t.cf, t.zf), (t.sf, t.readRam ⟨0, 0x41⟩, t.pc))) =
      some ((0, false, true), (true, 0xA, 1)) := by decide

/-- XC2: `XCH A, 41H` -/
theorem test_xchAX_XC2 :
    stepped { on .s470 with zf := true, dmb := 1, ram := [(0x141, 3)] } [0x3D, 0x41]
        (fun t => ((t.a, t.cf, t.zf), (t.sf, t.readRam ⟨1, 0x41⟩, t.pc))) =
      some ((3, false, false), (true, 0, 2)) := by decide

/-- XC3: `XCH HL, 48H` -/
theorem test_xchHLX_XC3 :
    stepped { on .s47 with h := 0xB, l := 0xC, ram := [(0x48, 1), (0x49, 2)] } [0x29, 0x48]
        (fun t => ((t.h, t.l, t.cf, t.zf), (t.sf, t.readRam ⟨0, 0x48⟩, t.readRam ⟨0, 0x49⟩, t.pc))) =
      some ((2, 1, false, false), (true, 0xC, 0xB, 2)) := by decide

/-- E6: `XCH A, H` -/
theorem test_xchAH_E6 :
    stepped { on .s47 with a := 4, h := 8 } [0x30]
        (fun t => (t.a, t.h, t.zf, t.sf, t.pc)) =
      some (8, 4, false, true, 1) := by decide

/-- XC5: `XCH A, H` -/
theorem test_xchAH_XC5 :
    stepped { on .s47 with a := 5 } [0x30]
        (fun t => ((t.a, t.h, t.cf), (t.zf, t.sf, t.pc))) =
      some ((0, 5, false), (true, true, 1)) := by decide

/-- E7: `XCH A, L` -/
theorem test_xchAL_E7 :
    stepped { on .s47 with a := 0xB } [0x31]
        (fun t => (t.a, t.l, t.zf, t.sf, t.pc)) =
      some (0, 0xB, true, true, 1) := by decide

/-- XC6: `XCH A, L` -/
theorem test_xchAL_XC6 :
    stepped { on .s47 with l := 7, zf := true } [0x31]
        (fun t => ((t.a, t.l, t.cf), (t.zf, t.sf, t.pc))) =
      some ((7, 0, false), (false, true, 1)) := by decide

/-- IO1: `IN %00H, A` -/
theorem test_inPA_IO1 :
    stepped { on .s47 with a := 5, sf := true, pins := [0] } [0x3A, 0x20]
        (fun t => ((t.a, t.cf, t.zf), (t.sf, t.pc, t.events))) =
      some ((0, false, true), (false, 2, [.portIn 0 0])) := by decide

/-- IO2: `IN %0EH, A` -/
theorem test_inPA_IO2 :
    stepped { on .s47 with a := 5, zf := true, pins := [9] } [0x3A, 0x2E]
        (fun t => ((t.a, t.cf, t.zf), (t.sf, t.pc, t.events))) =
      some ((9, false, false), (true, 2, [.portIn 0xE 9])) := by decide

/-- IO3: `IN %13H, A` -/
theorem test_inPAHigh_IO3 :
    stepped { on .s470 with a := 5, pins := [0] } [0x3A, 0x03]
        (fun t => ((t.a, t.cf, t.zf), (t.sf, t.pc, t.events))) =
      some ((0, false, true), (true, 2, [.portIn 0x13 0])) := by decide

/-- IO5: `IN %01H, @HL` -/
theorem test_inPAtHL_IO5 :
    stepped { on .s47 with h := 2, zf := true, sf := true, pins := [0], ram := [(0x20, 5)] } [0x3A, 0x61]
        (fun t => ((t.cf, t.zf, t.sf), (t.readRam ⟨0, 0x20⟩, t.pc, t.events))) =
      some ((false, true, false), (0, 2, [.portIn 1 0])) := by decide

/-- IO6: `IN %15H, @HL` -/
theorem test_inPAtHLHigh_IO6 :
    stepped { on .s470A with h := 2, zf := true, dmb := 2, pins := [0xF], ram := [(0x220, 5)] } [0x3A, 0x45]
        (fun t => ((t.cf, t.zf, t.sf), (t.readRam ⟨2, 0x20⟩, t.pc, t.events))) =
      some ((false, true, true), (0xF, 2, [.portIn 0x15 0xF])) := by decide

/-- E8: `OUT A, %04H` -/
theorem test_outAP_E8 :
    stepped { on' .s47 fun d => { d with portKind := Vector.replicate 32 .output } with a := 6 } [0x3A, 0x84]
        (fun t => (t.sf, t.latchOf 4, t.pc, t.events)) =
      some (true, 6, 2, [.portOut 4 6]) := by decide

/-- IO7: `OUT A, %17H` -/
theorem test_outAP_IO7 :
    stepped { on' .s47 fun d => { d with portKind := Vector.replicate 32 .output } with a := 3 } [0x3A, 0xA7]
        (fun t => ((t.cf, t.zf, t.sf), (t.latchOf 0x17, t.pc, t.events))) =
      some ((false, false, true), (3, 2, [.portOut 0x17 3])) := by decide

/-- IO10: `OUT @HL, %06H` -/
theorem test_outAtHLP_IO10 :
    stepped { on .s47 with h := 2, ram := [(0x20, 0xB)], latch := Vector.replicate 32 0 } [0x3A, 0xC6]
        (fun t => ((t.cf, t.zf, t.sf), (t.latchOf 6, t.pc, t.events))) =
      some ((false, false, true), (0xB, 2, [.portOut 6 0xB])) := by decide

/-- IO11: `OUT #9, %03H` -/
theorem test_outKP_IO11 :
    stepped { on' .s47 fun d => { d with portKind := Vector.replicate 32 .output } with latch := Vector.replicate 32 0xF } [0x2C, 0x93]
        (fun t => ((t.cf, t.zf, t.sf), (t.latchOf 3, t.pc, t.events))) =
      some ((false, false, true), (9, 2, [.portOut 3 9])) := by decide

/-- E9: `OUTB @HL` -/
theorem test_outbAtHL_E9 :
    stepped { on' .s47 fun d => { d with portKind := Vector.replicate 32 .output, romSize := 4096 } with h := 8, l := 2, cf := true, ram := [(0x82, 5)], rom := [(0xFF5, 0x6D)] } [0x12]
        (fun t => (t.sf, t.latchOf 1, t.latchOf 2, t.pc, t.events)) =
      some (true, 0xD, 6, 1, [.portOut 2 6, .portOut 1 0xD]) := by decide

/-- IO13: `OUTB @HL` -/
theorem test_outbAtHL_IO13 :
    stepped { on' .s47 fun d => { d with portKind := Vector.replicate 32 .output, romSize := 2048 } with h := 3, cf := true, ram := [(0x30, 0xF)], rom := [(0x7FF, 0x21)] } [0x12]
        (fun t => ((t.cf, t.zf, t.sf, t.latchOf 1), (t.latchOf 2, t.pc, t.events))) =
      some ((true, false, true, 1), (2, 1, [.portOut 2 2, .portOut 1 1])) := by decide

/-- AL1: `CMPR A, @HL` -/
theorem test_cmprAAtHL_AL1 :
    stepped { on .s47 with a := 5, h := 2, ram := [(0x20, 5)] } [0x16]
        (fun t => (t.cf, t.zf, t.sf, t.pc)) =
      some (true, true, false, 1) := by decide

/-- AL3: `CMPR A, @HL` -/
theorem test_cmprAAtHL_AL3 :
    stepped { on .s47 with a := 9, h := 2, ram := [(0x20, 5)] } [0x16]
        (fun t => (t.cf, t.zf, t.sf, t.pc)) =
      some (false, false, true, 1) := by decide

/-- AL4: `CMPR A, 20H` -/
theorem test_cmprAX_AL4 :
    stepped { on .s470 with dmb := 1 } [0x3E, 0x20]
        (fun t => (t.cf, t.zf, t.sf, t.pc)) =
      some (true, true, false, 2) := by decide

/-- AL5: `CMPR 0CH, #7` -/
theorem test_cmprYK_AL5 :
    stepped { on .s47 with cf := true, ram := [(0xC, 8)] } [0x2E, 0x7C]
        (fun t => (t.cf, t.zf, t.sf, t.pc)) =
      some (false, false, true, 2) := by decide

/-- AL6: `CMPR 0CH, #7` -/
theorem test_cmprYK_AL6 :
    stepped { on .s47 with ram := [(0xC, 7)] } [0x2E, 0x7C]
        (fun t => (t.cf, t.zf, t.sf, t.pc)) =
      some (true, true, false, 2) := by decide

/-- E10: `CMPR A, #1` -/
theorem test_cmprAK_E10 :
    stepped { on .s47 with a := 2 } [0xD1]
        (fun t => (t.cf, t.zf, t.sf, t.pc)) =
      some (false, false, true, 1) := by decide

/-- AL9: `CMPR A, #3` -/
theorem test_cmprAK_AL9 :
    stepped { on .s47 with a := 4, cf := true, zf := true } [0xD3]
        (fun t => (t.cf, t.zf, t.sf, t.pc)) =
      some (false, false, true, 1) := by decide

/-- E11: `CMPR H, #5` -/
theorem test_cmprHK_E11 :
    stepped { on .s47 with h := 3 } [0x38, 0xD5]
        (fun t => (t.zf, t.sf, t.pc)) =
      some (false, true, 2) := by decide

/-- AL11: `CMPR H, #5` -/
theorem test_cmprHK_AL11 :
    stepped { on .s47 with h := 6, cf := true, zf := true, sf := true } [0x38, 0xD5]
        (fun t => (t.cf, t.zf, t.sf, t.pc)) =
      some (true, false, false, 2) := by decide

/-- AL12: `CMPR L, #0` -/
theorem test_cmprLK_AL12 :
    stepped (on .s47) [0x38, 0x90]
        (fun t => (t.cf, t.zf, t.sf, t.pc)) =
      some (false, true, true, 2) := by decide

/-- AL13: `CMPR L, #0FH` -/
theorem test_cmprLK_AL13 :
    stepped { on .s47 with zf := true } [0x38, 0x9F]
        (fun t => (t.cf, t.zf, t.sf, t.pc)) =
      some (false, false, true, 2) := by decide

/-- AL14: `ADD A, @HL` -/
theorem test_addAAtHL_AL14 :
    stepped { on .s47 with a := 8, h := 2, sf := true, ram := [(0x20, 8)] } [0x17]
        (fun t => (t.a, t.cf, t.zf, t.sf, t.pc)) =
      some (0, false, true, false, 1) := by decide

/-- AL15: `ADD A, @HL` -/
theorem test_addAAtHL_AL15 :
    stepped { on .s47 with a := 8, h := 2, cf := true, zf := true, ram := [(0x20, 7)] } [0x17]
        (fun t => (t.a, t.cf, t.zf, t.sf, t.pc)) =
      some (0xF, true, false, true, 1) := by decide

/-- AL16: `ADDC A, @HL` -/
theorem test_addcAAtHL_AL16 :
    stepped { on .s47 with a := 0xF, h := 2, cf := true, sf := true } [0x15]
        (fun t => (t.a, t.cf, t.zf, t.sf, t.pc)) =
      some (0, true, true, false, 1) := by decide

/-- AL18: `ADDC A, @HL` -/
theorem test_addcAAtHL_AL18 :
    stepped { on .s47 with a := 3, h := 2, zf := true, ram := [(0x20, 4)] } [0x15]
        (fun t => (t.a, t.cf, t.zf, t.sf, t.pc)) =
      some (7, false, false, true, 1) := by decide

/-- AL19: `ADD @HL, #6` -/
theorem test_addAtHLK_AL19 :
    stepped { on .s47 with h := 2, ram := [(0x20, 0xA)] } [0x38, 0x46]
        (fun t => (t.cf, t.zf, t.sf, t.readRam ⟨0, 0x20⟩, t.pc)) =
      some (false, true, false, 0, 2) := by decide

/-- AL20: `ADD @HL, #0` -/
theorem test_addAtHLK_AL20 :
    stepped { on .s47 with h := 2, cf := true } [0x38, 0x40]
        (fun t => (t.cf, t.zf, t.sf, t.pc)) =
      some (true, true, true, 2) := by decide

/-- AL21: `ADD 0EH, #1` -/
theorem test_addYK_AL21 :
    stepped { on .s47 with sf := true, ram := [(0xE, 0xF)] } [0x2F, 0x1E]
        (fun t => (t.cf, t.zf, t.sf, t.readRam ⟨0, 0xE⟩, t.pc)) =
      some (false, true, false, 0, 2) := by decide

/-- E12: `ADD A, #0EH` -/
theorem test_addAK_E12 :
    stepped { on .s47 with a := 9 } [0x38, 0x0E]
        (fun t => (t.a, t.zf, t.sf, t.pc)) =
      some (7, false, false, 2) := by decide

/-- AL23: `ADD A, #0FH` -/
theorem test_addAK_AL23 :
    stepped { on .s47 with a := 1, cf := true, sf := true } [0x38, 0x0F]
        (fun t => (t.a, t.cf, t.zf, t.sf, t.pc)) =
      some (0, true, true, false, 2) := by decide

/-- AL24: `ADD H, #1` -/
theorem test_addHK_AL24 :
    stepped { on .s47 with h := 0xF, sf := true } [0x38, 0xC1]
        (fun t => (t.h, t.cf, t.zf, t.sf, t.pc)) =
      some (0, false, true, false, 2) := by decide

/-- AL25: `ADD H, #0FH` -/
theorem test_addHK_AL25 :
    stepped { on .s47 with h := 3, sf := true } [0x38, 0xCF]
        (fun t => (t.h, t.cf, t.zf, t.sf, t.pc)) =
      some (2, false, false, false, 2) := by decide

/-- AL26: `ADD L, #4` -/
theorem test_addLK_AL26 :
    stepped { on .s47 with l := 0xC, sf := true } [0x38, 0x84]
        (fun t => (t.l, t.cf, t.zf, t.sf, t.pc)) =
      some (0, false, true, false, 2) := by decide

/-- AL27: `ADD L, #4` -/
theorem test_addLK_AL27 :
    stepped { on .s47 with l := 0xB, zf := true } [0x38, 0x84]
        (fun t => (t.l, t.cf, t.zf, t.sf, t.pc)) =
      some (0xF, false, false, true, 2) := by decide

/-- AL28: `SUBRC A, @HL` -/
theorem test_subrcAAtHL_AL28 :
    stepped { on .s47 with a := 3, h := 2, cf := true, ram := [(0x20, 9)] } [0x14]
        (fun t => (t.a, t.cf, t.zf, t.sf, t.pc)) =
      some (6, true, false, true, 1) := by decide

/-- AL32: `SUBRC A, @HL` -/
theorem test_subrcAAtHL_AL32 :
    stepped { on .s47 with a := 3, h := 2, cf := true, ram := [(0x20, 3)] } [0x14]
        (fun t => (t.a, t.cf, t.zf, t.sf, t.pc)) =
      some (0, true, true, true, 1) := by decide

/-- AL33: `SUBR @HL, #0` -/
theorem test_subrAtHLK_AL33 :
    stepped { on .s47 with h := 2, sf := true, ram := [(0x20, 5)] } [0x38, 0x50]
        (fun t => (t.cf, t.zf, t.sf, t.readRam ⟨0, 0x20⟩, t.pc)) =
      some (false, false, false, 0xB, 2) := by decide

/-- AL34: `SUBR @HL, #0` -/
theorem test_subrAtHLK_AL34 :
    stepped { on .s47 with h := 2 } [0x38, 0x50]
        (fun t => (t.cf, t.zf, t.sf, t.pc)) =
      some (false, true, true, 2) := by decide

/-- E13: `SUBR A, #0BH` -/
theorem test_subrAK_E13 :
    stepped { on .s47 with a := 4 } [0x38, 0x1B]
        (fun t => (t.a, t.zf, t.sf, t.pc)) =
      some (7, false, true, 2) := by decide

/-- AL36: `SUBR A, #0` -/
theorem test_subrAK_AL36 :
    stepped { on .s47 with a := 1, cf := true, zf := true, sf := true } [0x38, 0x10]
        (fun t => (t.a, t.cf, t.zf, t.sf, t.pc)) =
      some (0xF, true, false, false, 2) := by decide

/-- AL37: `INC @HL` -/
theorem test_incAtHL_AL37 :
    stepped { on .s47 with h := 2, sf := true, ram := [(0x20, 0xF)] } [0x0A]
        (fun t => (t.cf, t.zf, t.sf, t.readRam ⟨0, 0x20⟩, t.pc)) =
      some (false, true, false, 0, 1) := by decide

/-- AL38: `DEC @HL` -/
theorem test_decAtHL_AL38 :
    stepped { on .s47 with h := 2, zf := true, sf := true } [0x0B]
        (fun t => (t.cf, t.zf, t.sf, t.readRam ⟨0, 0x20⟩, t.pc)) =
      some (false, false, false, 0xF, 1) := by decide

/-- AL39: `DEC @HL` -/
theorem test_decAtHL_AL39 :
    stepped { on .s47 with h := 2, ram := [(0x20, 1)] } [0x0B]
        (fun t => (t.cf, t.zf, t.sf, t.readRam ⟨0, 0x20⟩, t.pc)) =
      some (false, true, true, 0, 1) := by decide

/-- E14: `INC A` -/
theorem test_incA_E14 :
    stepped { on .s47 with a := 7 } [0x08]
        (fun t => (t.a, t.zf, t.sf, t.pc)) =
      some (8, false, true, 1) := by decide

/-- E15: `INC A` -/
theorem test_incA_E15 :
    stepped { on .s47 with a := 0xF } [0x08]
        (fun t => (t.a, t.zf, t.sf, t.pc)) =
      some (0, true, false, 1) := by decide

/-- E16: `DEC A` -/
theorem test_decA_E16 :
    stepped { on .s47 with a := 5 } [0x09]
        (fun t => (t.a, t.zf, t.sf, t.pc)) =
      some (4, false, true, 1) := by decide

/-- AL41: `DEC A` -/
theorem test_decA_AL41 :
    stepped { on .s47 with a := 1, cf := true } [0x09]
        (fun t => (t.a, t.cf, t.zf, t.sf, t.pc)) =
      some (0, true, true, true, 1) := by decide

/-- AL42: `INC L` -/
theorem test_incL_AL42 :
    stepped { on .s47 with h := 3, l := 0xF, sf := true } [0x18]
        (fun t => (t.l, t.cf, t.zf, t.sf, t.pc)) =
      some (0, false, true, false, 1) := by decide

/-- AL43: `DEC L` -/
theorem test_decL_AL43 :
    stepped { on .s47 with h := 3, sf := true } [0x19]
        (fun t => (t.l, t.cf, t.zf, t.sf, t.pc)) =
      some (0xF, false, false, false, 1) := by decide

/-- AL44: `AND A, @HL` -/
theorem test_andAAtHL_AL44 :
    stepped { on .s47 with a := 0xA, h := 2, cf := true, sf := true, ram := [(0x20, 5)] } [0x1E]
        (fun t => (t.a, t.cf, t.zf, t.sf, t.pc)) =
      some (0, true, true, false, 1) := by decide

/-- AL45: `AND @HL, #0CH` -/
theorem test_andAtHLK_AL45 :
    stepped { on .s47 with h := 2, cf := true, zf := true, ram := [(0x20, 6)] } [0x38, 0x7C]
        (fun t => (t.cf, t.zf, t.sf, t.readRam ⟨0, 0x20⟩, t.pc)) =
      some (true, false, true, 4, 2) := by decide

/-- E17: `AND A, #0101B` -/
theorem test_andAK_E17 :
    stepped { on .s47 with a := 3 } [0x38, 0x35]
        (fun t => (t.a, t.zf, t.sf, t.pc)) =
      some (1, false, true, 2) := by decide

/-- AL46: `AND A, #0` -/
theorem test_andAK_AL46 :
    stepped { on .s47 with a := 0xF, cf := true, sf := true } [0x38, 0x30]
        (fun t => (t.a, t.cf, t.zf, t.sf, t.pc)) =
      some (0, true, true, false, 2) := by decide

/-- AL47: `OR A, @HL` -/
theorem test_orAAtHL_AL47 :
    stepped { on .s47 with h := 2, cf := true, sf := true } [0x1D]
        (fun t => (t.cf, t.zf, t.sf, t.pc)) =
      some (true, true, false, 1) := by decide

/-- AL48: `OR @HL, #3` -/
theorem test_orAtHLK_AL48 :
    stepped { on .s47 with h := 2, cf := true, zf := true, ram := [(0x20, 4)] } [0x38, 0x63]
        (fun t => (t.cf, t.zf, t.sf, t.readRam ⟨0, 0x20⟩, t.pc)) =
      some (true, false, true, 7, 2) := by decide

/-- E18: `OR A, #0101B` -/
theorem test_orAK_E18 :
    stepped { on .s47 with a := 0xC } [0x38, 0x25]
        (fun t => (t.a, t.zf, t.sf, t.pc)) =
      some (0xD, false, true, 2) := by decide

/-- AL49: `OR A, #0` -/
theorem test_orAK_AL49 :
    stepped { on .s47 with cf := true, sf := true } [0x38, 0x20]
        (fun t => (t.cf, t.zf, t.sf, t.pc)) =
      some (true, true, false, 2) := by decide

/-- E19: `XOR A, @HL` -/
theorem test_xorAAtHL_E19 :
    stepped { on .s47 with a := 6, h := 2, l := 5, ram := [(0x25, 0xA)] } [0x1F]
        (fun t => (t.a, t.zf, t.sf, t.pc)) =
      some (0xC, false, true, 1) := by decide

/-- AL50: `XOR A, @HL` -/
theorem test_xorAAtHL_AL50 :
    stepped { on .s47 with a := 9, h := 2, cf := true, sf := true, ram := [(0x20, 9)] } [0x1F]
        (fun t => (t.a, t.cf, t.zf, t.sf, t.pc)) =
      some (0, true, true, false, 1) := by decide

/-- E20: `ROLC A` -/
theorem test_rolcA_E20 :
    stepped { on .s47 with a := 0xB } [0x05]
        (fun t => (t.a, t.cf, t.zf, t.sf, t.pc)) =
      some (6, true, false, false, 1) := by decide

/-- RO3: `ROLC A` -/
theorem test_rolcA_RO3 :
    stepped { on .s47 with a := 0xF, cf := true, sf := true } [0x05]
        (fun t => (t.cf, t.zf, t.sf, t.pc)) =
      some (true, false, false, 1) := by decide

/-- E21: `RORC A` -/
theorem test_rorcA_E21 :
    stepped { on .s47 with a := 4, cf := true } [0x07]
        (fun t => (t.a, t.cf, t.zf, t.sf, t.pc)) =
      some (0xA, false, false, true, 1) := by decide

/-- RO6: `RORC A` -/
theorem test_rorcA_RO6 :
    stepped { on .s47 with a := 0xE } [0x07]
        (fun t => (t.a, t.cf, t.zf, t.sf, t.pc)) =
      some (7, false, false, true, 1) := by decide

/-- BM2: `CLR @HL, 0` -/
theorem test_clrAtHLB_BM2 :
    stepped { on .s47 with h := 2, ram := [(0x20, 1)] } [0x54]
        (fun t => (t.cf, t.zf, t.sf, t.readRam ⟨0, 0x20⟩, t.pc)) =
      some (false, false, true, 0, 1) := by decide

/-- E22: `CLR 0CH, 2` -/
theorem test_clrYB_E22 :
    stepped { on .s47 with ram := [(0xC, 0xD)] } [0x39, 0x6C]
        (fun t => (t.sf, t.readRam ⟨0, 0xC⟩, t.pc)) =
      some (true, 9, 2) := by decide

/-- BM4: `CLR 5, 3` -/
theorem test_clrYB_BM4 :
    stepped { on .s47 with ram := [(5, 7)] } [0x39, 0x75]
        (fun t => (t.cf, t.zf, t.sf, t.pc)) =
      some (false, false, true, 2) := by decide

/-- BM6: `CLR %02H, 2` -/
theorem test_clrPB_BM6 :
    stepped { on .s47 with latch := Vector.replicate 32 0xF } [0x3B, 0x62]
        (fun t => ((t.cf, t.zf, t.sf), (t.latchOf 2, t.pc, t.events))) =
      some ((false, false, true), (0xB, 2, [.portOut 2 0xB])) := by decide

/-- E23: `CLR @L` -/
theorem test_clrAtL_E23 :
    stepped { on' .s47 fun d => { d with portKind := Vector.replicate 32 .output } with l := 6, latch := Vector.replicate 32 0xD } [0x35]
        (fun t => (t.sf, t.latchOf 5, t.pc, t.events)) =
      some (true, 9, 1, [.portOut 5 9]) := by decide

/-- BM8: `CLR @L` -/
theorem test_clrAtL_BM8 :
    stepped { on' .s47 fun d => { d with portKind := Vector.replicate 32 .output } with latch := Vector.replicate 32 0xF } [0x35]
        (fun t => ((t.cf, t.zf, t.sf), (t.latchOf 4, t.pc, t.events))) =
      some ((false, false, true), (0xE, 1, [.portOut 4 0xE])) := by decide

/-- BM1: `SET @HL, 3` -/
theorem test_setAtHLB_BM1 :
    stepped { on .s47 with h := 2, ram := [(0x20, 1)] } [0x53]
        (fun t => (t.cf, t.zf, t.sf, t.readRam ⟨0, 0x20⟩, t.pc)) =
      some (false, false, true, 9, 1) := by decide

/-- BM3: `SET 5, 2` -/
theorem test_setYB_BM3 :
    stepped { on .s470 with dmb := 1 } [0x39, 0x25]
        (fun t => (t.cf, t.zf, t.sf, t.readRam ⟨0, 5⟩, t.pc)) =
      some (false, false, true, 4, 2) := by decide

/-- BM5: `SET %02H, 1` -/
theorem test_setPB_BM5 :
    stepped { on' .s47 fun d => { d with portKind := Vector.replicate 32 .output } with latch := Vector.replicate 32 8 } [0x3B, 0x12]
        (fun t => ((t.cf, t.zf, t.sf), (t.latchOf 2, t.pc, t.events))) =
      some ((false, false, true), (0xA, 2, [.portOut 2 0xA])) := by decide

/-- BM7: `SET @L` -/
theorem test_setAtL_BM7 :
    stepped { on' .s47 fun d => { d with portKind := Vector.replicate 32 .output } with l := 0xF, latch := Vector.replicate 32 0 } [0x34]
        (fun t => ((t.cf, t.zf, t.sf), (t.latchOf 7, t.pc, t.events))) =
      some ((false, false, true), (8, 1, [.portOut 7 8])) := by decide

/-- BM10: `TEST @HL, 2` -/
theorem test_testAtHLB_BM10 :
    stepped { on .s47 with h := 2, ram := [(0x20, 0xB)] } [0x5A]
        (fun t => (t.cf, t.zf, t.sf, t.pc)) =
      some (false, false, true, 1) := by decide

/-- BM11: `TEST @HL, 2` -/
theorem test_testAtHLB_BM11 :
    stepped { on .s47 with h := 2, sf := true, ram := [(0x20, 4)] } [0x5A]
        (fun t => (t.cf, t.zf, t.sf, t.pc)) =
      some (false, false, false, 1) := by decide

/-- BM12: `TEST 5, 0` -/
theorem test_testYB_BM12 :
    stepped { on .s47 with ram := [(5, 0xE)] } [0x39, 0x85]
        (fun t => (t.cf, t.zf, t.sf, t.pc)) =
      some (false, false, true, 2) := by decide

/-- BM13: `TESTP 5, 3` -/
theorem test_testpYB_BM13 :
    stepped { on .s47 with ram := [(5, 8)] } [0x39, 0xF5]
        (fun t => (t.cf, t.zf, t.sf, t.pc)) =
      some (false, false, true, 2) := by decide

/-- BM14: `TESTP 5, 3` -/
theorem test_testpYB_BM14 :
    stepped { on .s47 with sf := true, ram := [(5, 7)] } [0x39, 0xF5]
        (fun t => (t.cf, t.zf, t.sf, t.pc)) =
      some (false, false, false, 2) := by decide

/-- BM15: `TEST %02H, 2` -/
theorem test_testPB_BM15 :
    stepped { on' .s47 fun d => { d with portKind := Vector.replicate 32 .output } with latch := Vector.replicate 32 0xB } [0x3B, 0xA2]
        (fun t => (t.cf, t.zf, t.sf, t.pc)) =
      some (false, false, true, 2) := by decide

/-- BM16: `TEST %02H, 2` -/
theorem test_testPB_BM16 :
    stepped { on .s47 with sf := true, pins := [4] } [0x3B, 0xA2]
        (fun t => (t.cf, t.zf, t.sf, t.pc, t.events)) =
      some (false, false, false, 2, [.portIn 2 4]) := by decide

/-- BM17: `TESTP %00H, 0` -/
theorem test_testpPB_BM17 :
    stepped { on .s47 with pins := [1], latch := Vector.replicate 32 0 } [0x3B, 0xC0]
        (fun t => (t.cf, t.zf, t.sf, t.pc, t.events)) =
      some (false, false, true, 2, [.portIn 0 1]) := by decide

/-- BM18: `TEST @L` -/
theorem test_testAtL_BM18 :
    stepped { on' .s47 fun d => { d with portKind := Vector.replicate 32 .output } with l := 6, latch := Vector.replicate 32 0xB } [0x37]
        (fun t => (t.cf, t.zf, t.sf, t.pc)) =
      some (false, false, true, 1) := by decide

/-- E24: `TEST A, 3` -/
theorem test_testAB_E24 :
    stepped { on .s47 with a := 9 } [0x5F]
        (fun t => (t.sf, t.pc)) =
      some (false, 1) := by decide

/-- BM20: `TEST A, 3` -/
theorem test_testAB_BM20 :
    stepped { on .s47 with a := 8, sf := true } [0x5F]
        (fun t => (t.cf, t.zf, t.sf, t.pc)) =
      some (false, false, false, 1) := by decide

/-- E25: `TEST CF` -/
theorem test_testCF_E25 :
    stepped { on .s47 with cf := true } [0x06]
        (fun t => (t.cf, t.sf, t.pc)) =
      some (false, false, 1) := by decide

/-- FB1: `TEST CF` -/
theorem test_testCF_FB1 :
    stepped (on .s47) [0x06]
        (fun t => (t.cf, t.zf, t.sf, t.pc)) =
      some (false, false, true, 1) := by decide

/-- E26: `TESTP CF` -/
theorem test_testpCF_E26 :
    stepped (on .s47) [0x04]
        (fun t => (t.cf, t.sf, t.pc)) =
      some (true, false, 1) := by decide

/-- FB2: `TESTP CF` -/
theorem test_testpCF_FB2 :
    stepped { on .s47 with cf := true } [0x04]
        (fun t => (t.cf, t.zf, t.sf, t.pc)) =
      some (true, false, true, 1) := by decide

/-- FB3: `TESTP ZF` -/
theorem test_testpZF_FB3 :
    stepped { on .s47 with zf := true } [0x0E]
        (fun t => (t.cf, t.zf, t.sf, t.pc)) =
      some (false, true, true, 1) := by decide

/-- FB4: `TESTP ZF` -/
theorem test_testpZF_FB4 :
    stepped { on .s47 with sf := true } [0x0E]
        (fun t => (t.cf, t.zf, t.sf, t.pc)) =
      some (false, false, false, 1) := by decide

/-- FB5: `CLR GF` -/
theorem test_clrGF_FB5 :
    stepped { on .s47 with gf := true } [0x02]
        (fun t => (t.cf, t.zf, t.sf, t.gf, t.pc)) =
      some (false, false, true, false, 1) := by decide

/-- FB6: `SET GF` -/
theorem test_setGF_FB6 :
    stepped (on .s47) [0x03]
        (fun t => (t.cf, t.zf, t.sf, t.gf, t.pc)) =
      some (false, false, true, true, 1) := by decide

/-- FB7: `TESTP GF` -/
theorem test_testpGF_FB7 :
    stepped { on .s47 with gf := true } [0x01]
        (fun t => (t.cf, t.zf, t.sf, t.pc)) =
      some (false, false, true, 1) := by decide

/-- FB10: `CLR DMB` -/
theorem test_clrDMB_FB10 :
    stepped { on .s470 with dmb := 1 } [0x3B, 0x79]
        (fun t => (t.cf, t.zf, t.sf, t.dmb, t.pc)) =
      some (false, false, true, 0, 2) := by decide

/-- FB9: `SET DMB` -/
theorem test_setDMB_FB9 :
    stepped (on .s470) [0x3B, 0x39]
        (fun t => (t.cf, t.zf, t.sf, t.dmb, t.pc)) =
      some (false, false, true, 1, 2) := by decide

/-- FB11: `TEST DMB` -/
theorem test_testDMB_FB11 :
    stepped { on .s470 with sf := true, dmb := 1 } [0x3B, 0xB9]
        (fun t => (t.cf, t.zf, t.sf, t.pc)) =
      some (false, false, false, 2) := by decide

/-- FB12: `TESTP DMB` -/
theorem test_testpDMB_FB12 :
    stepped { on .s470 with dmb := 1 } [0x3B, 0xF9]
        (fun t => (t.cf, t.zf, t.sf, t.pc)) =
      some (false, false, true, 2) := by decide

/-- FB13: `CLR DMB0` -/
theorem test_clrDMB0_FB13 :
    stepped { on .s470A with dmb := 3 } [0x3B, 0x79]
        (fun t => (t.cf, t.zf, t.sf, t.dmb, t.pc)) =
      some (false, false, true, 2, 2) := by decide

/-- FB14: `SET DMB0` -/
theorem test_setDMB0_FB14 :
    stepped { on .s470A with dmb := 2 } [0x3B, 0x39]
        (fun t => (t.cf, t.zf, t.sf, t.dmb, t.pc)) =
      some (false, false, true, 3, 2) := by decide

/-- FB15: `TEST DMB0` -/
theorem test_testDMB0_FB15 :
    stepped { on .s470A with dmb := 2 } [0x3B, 0xB9]
        (fun t => (t.cf, t.zf, t.sf, t.pc)) =
      some (false, false, true, 2) := by decide

/-- FB16: `TESTP DMB0` -/
theorem test_testpDMB0_FB16 :
    stepped { on .s470A with sf := true, dmb := 2 } [0x3B, 0xF9]
        (fun t => (t.cf, t.zf, t.sf, t.pc)) =
      some (false, false, false, 2) := by decide

/-- FB17: `CLR DMB1` -/
theorem test_clrDMB1_FB17 :
    stepped { on .s470A with dmb := 3 } [0x03, 0x3B, 0x59]
        (fun t => (t.cf, t.zf, t.sf, t.dmb, t.pc)) =
      some (false, false, true, 1, 3) := by decide

/-- FB18: `SET DMB1` -/
theorem test_setDMB1_FB18 :
    stepped { on .s470A with dmb := 1 } [0x03, 0x3B, 0x19]
        (fun t => (t.cf, t.zf, t.sf, t.dmb, t.pc)) =
      some (false, false, true, 3, 3) := by decide

/-- FB19: `TEST DMB1` -/
theorem test_testDMB1_FB19 :
    stepped { on .s470A with sf := true, dmb := 2 } [0x03, 0x3B, 0x99]
        (fun t => (t.cf, t.zf, t.sf, t.pc)) =
      some (false, false, false, 3) := by decide

/-- FB20: `TESTP DMB1` -/
theorem test_testpDMB1_FB20 :
    stepped { on .s470A with dmb := 2 } [0x03, 0x3B, 0xD9]
        (fun t => (t.cf, t.zf, t.sf, t.pc)) =
      some (false, false, true, 3) := by decide

/-- FB29: `LD DMB, #2` -/
theorem test_ldDMBK_FB29 :
    stepped (on' .s470A fun d => { d with ldDmbImmEnc := .suggested }) [0x03, 0x2C, 0x29]
        (fun t => (t.cf, t.zf, t.sf, t.dmb, t.pc)) =
      some (false, false, true, 2, 3) := by decide

/-- FB22: `LD DMB, @HL` -/
theorem test_ldDMBAtHL_FB22 :
    stepped { on .s470A with h := 2, dmb := 1, ram := [(0x120, 0xE)] } [0x03, 0x3A, 0xE9]
        (fun t => (t.cf, t.zf, t.sf, t.dmb, t.pc)) =
      some (false, false, true, 2, 3) := by decide

/-- E27: `MOV A, DMB` -/
theorem test_movADMB_E27 :
    stepped { on .s470A with a := 0xD } [0x03, 0x3A, 0xA9]
        (fun t => (t.sf, t.dmb, t.pc)) =
      some (true, 1, 3) := by decide

/-- FB23: `MOV A, DMB` -/
theorem test_movADMB_FB23 :
    stepped { on .s470A with a := 0xF } [0x03, 0x3A, 0xA9]
        (fun t => (t.cf, t.zf, t.sf, t.dmb, t.pc)) =
      some (false, false, true, 3, 3) := by decide

/-- E28: `MOV DMB, A` -/
theorem test_movDMBA_E28 :
    stepped { on .s470A with dmb := 2 } [0x03, 0x3A, 0x29]
        (fun t => (t.a, t.zf, t.sf, t.pc)) =
      some (2, false, true, 3) := by decide

/-- FB25: `MOV DMB, A` -/
theorem test_movDMBA_FB25 :
    stepped { on .s470A with zf := true, dmb := 3 } [0x03, 0x3A, 0x29]
        (fun t => (t.a, t.cf, t.zf, t.sf, t.pc)) =
      some (3, false, false, true, 3) := by decide

/-- FB26: `ST DMB, @HL` -/
theorem test_stDMBAtHL_FB26 :
    stepped { on .s470A with h := 2, sf := true, ram := [(0x20, 0xF)] } [0x03, 0x3A, 0x69]
        (fun t => (t.cf, t.zf, t.sf, t.readRam ⟨0, 0x20⟩, t.pc)) =
      some (false, false, false, 0, 3) := by decide

/-- FB27: `ST DMB, @HL` -/
theorem test_stDMBAtHL_FB27 :
    stepped { on .s470A with h := 2, zf := true, dmb := 2, ram := [(0x220, 0xF)] } [0x03, 0x3A, 0x69]
        (fun t => (t.cf, t.zf, t.sf, t.readRam ⟨2, 0x20⟩, t.pc)) =
      some (false, true, true, 2, 3) := by decide

/-- BR1: `BSS 0105H` -/
theorem test_bss_BR1 :
    stepped { on .s47 with sf := true, pc := 0x123 } [0x85]
        (fun t => (t.cf, t.zf, t.sf, t.pc)) =
      some (false, false, true, 0x105) := by decide

/-- BR5: `BSS 0001H` -/
theorem test_bss_BR5 :
    stepped { on .s47 with sf := true, pc := 0xFFF } [0x81]
        (fun t => (t.cf, t.zf, t.sf, t.pc)) =
      some (false, false, true, 1) := by decide

/-- BR6: `BS 0ABCH` -/
theorem test_bs_BR6 :
    stepped { on .s47 with sf := true, pc := 0x123 } [0x6A, 0xBC]
        (fun t => (t.cf, t.zf, t.sf, t.pc)) =
      some (false, false, true, 0xABC) := by decide

/-- BR10: `BS 2010H` -/
theorem test_bs_BR10 :
    stepped { on .s470 with sf := true, pc := 0x1FFF } [0x60, 0x10]
        (fun t => (t.cf, t.zf, t.sf, t.pc)) =
      some (false, false, true, 0x2010) := by decide

/-- BR11: `BSL 0FEDH` -/
theorem test_bslBank0_BR11 :
    stepped { on .s470A with sf := true, pc := 0x100 } [0x02, 0x6F, 0xED]
        (fun t => (t.cf, t.zf, t.sf, t.pc)) =
      some (false, false, true, 0xFED) := by decide

/-- BR12: `BSL 1FEDH` -/
theorem test_bslBank1_BR12 :
    stepped { on .s470A with sf := true, pc := 0x100 } [0x03, 0x6F, 0xED]
        (fun t => (t.cf, t.zf, t.sf, t.pc)) =
      some (false, false, true, 0x1FED) := by decide

/-- BR13: `BSL 2FEDH` -/
theorem test_bslBank2_BR13 :
    stepped { on .s470A with sf := true, pc := 0x100 } [0x1C, 0x6F, 0xED]
        (fun t => (t.cf, t.zf, t.sf, t.pc)) =
      some (false, false, true, 0x2FED) := by decide

/-- BR14: `BSL 3FEDH` -/
theorem test_bslBank3_BR14 :
    stepped { on .s470A with sf := true, pc := 0x100 } [0x01, 0x6F, 0xED]
        (fun t => (t.cf, t.zf, t.sf, t.pc)) =
      some (false, false, true, 0x3FED) := by decide

/-- BR15: `BSL 2FEDH` -/
theorem test_bslBank2_BR15 :
    stepped { on .s470 with pc := 0x100 } [0x1C, 0x6F, 0xED]
        (fun t => (t.cf, t.zf, t.sf, t.pc)) =
      some (false, false, true, 0x103) := by decide

/-- E29: `CALLS 000EH` -/
theorem test_calls_E29 :
    stepped { on .s47 with spw := 0xE, pc := 0x200 } [0x71]
        (fun t => (t.spw, t.stack[14].pc, t.stk13[14], t.pc)) =
      some (0xD, 0x201, false, 0xE) := by decide

/-- SU3: `CALLS 0016H` -/
theorem test_calls_SU3 :
    stepped { on .s470A with sf := true, spw := 5, pc := 0x3FFF } [0x72]
        (fun t => ((t.cf, t.zf, t.sf, t.spw), (t.stack[5].pc, t.stk13[5], t.pc))) =
      some ((false, false, true, 4), (0, false, 0x16)) := by decide

/-- SU4: `CALL 07FFH` -/
theorem test_call_SU4 :
    stepped { on .s47 with cf := true, zf := true, spw := 0xE, pc := 0x200 } [0x27, 0xFF]
        (fun t => ((t.cf, t.zf, t.sf, t.spw), (t.stack[14].pc, t.stk13[14], t.pc))) =
      some ((true, true, false, 0xD), (0x202, false, 0x7FF)) := by decide

/-- SU6: `RET` -/
theorem test_ret_SU6 :
    stepped { on .s47 with cf := true, zf := true, spw := 0xD, pc := 0x200, stack := Vector.replicate 16 ⟨0xABC, ⟨false, false, false, false⟩⟩ } [0x2A]
        (fun t => (t.cf, t.zf, t.sf, t.spw, t.pc)) =
      some (true, true, false, 0xE, 0xABC) := by decide

/-- SU11: `RET` -/
theorem test_ret_SU11 :
    stepped { on .s47 with cf := true, zf := true, spw := 0xF, pc := 0x200, stack := Vector.replicate 16 ⟨0x123, ⟨false, false, false, false⟩⟩ } [0x2A]
        (fun t => (t.cf, t.zf, t.sf, t.spw, t.pc)) =
      some (true, true, false, 0, 0x123) := by decide

/-- E30: `XCH A, EIR` -/
theorem test_xchAEIR_E30 :
    stepped { on .s47 with a := 0xD, eir := 1 } [0x13]
        (fun t => (t.a, t.sf, t.eir, t.pc)) =
      some (1, true, 0xD, 1) := by decide

/-- IC1: `XCH A, EIR` -/
theorem test_xchAEIR_IC1 :
    stepped { on .s47 with eir := 0xF } [0x13]
        (fun t => ((t.a, t.cf, t.zf), (t.sf, t.eir, t.pc))) =
      some ((0xF, false, false), (true, 0, 1)) := by decide

/-- IC2: `EICLR IL, 000000B` -/
theorem test_eiclr_IC2 :
    stepped { on .s47 with il := 0x2D } [0x36, 0x40]
        (fun t => ((t.cf, t.zf, t.sf), (t.eif, t.il, t.pc))) =
      some ((false, false, true), (true, 0, 2)) := by decide

/-- IC3: `EICLR IL, 011110B` -/
theorem test_eiclr_IC3 :
    stepped { on .s47 with il := 0x3F } [0x36, 0x5E]
        (fun t => ((t.cf, t.zf, t.sf), (t.eif, t.il, t.pc))) =
      some ((false, false, true), (true, 0x1E, 2)) := by decide

/-- IC5: `DICLR IL, 000000B` -/
theorem test_diclr_IC5 :
    stepped { on .s47 with eif := true, il := 0x3F } [0x36, 0x80]
        (fun t => ((t.cf, t.zf, t.sf), (t.eif, t.il, t.pc))) =
      some ((false, false, true), (false, 0, 2)) := by decide

/-- E31: `CLR IL, 101100B` -/
theorem test_clrIL_E31 :
    stepped { on .s47 with il := 0x3F } [0x36, 0xEC]
        (fun t => (t.sf, t.il, t.pc)) =
      some (true, 0x2C, 2) := by decide

/-- IC7: `CLR IL, 011111B` -/
theorem test_clrIL_IC7 :
    stepped { on .s47 with eif := true, il := 0x21 } [0x36, 0xDF]
        (fun t => (t.cf, t.zf, t.sf, t.il, t.pc)) =
      some (false, false, true, 1, 2) := by decide

/-- IC9: `RETI` -/
theorem test_reti_IC9 :
    stepped { on .s47 with spw := 0xD, pc := 2, stack := Vector.replicate 16 ⟨0xABC, ⟨true, true, true, true⟩⟩ } [0x2B]
        (fun t => ((t.cf, t.zf, t.sf, t.gf), (t.spw, t.eif, t.pc))) =
      some ((true, true, true, true), (0xE, true, 0xABC)) := by decide

/-- IC10: `RETI` -/
theorem test_reti_IC10 :
    stepped { on .s470 with dmb := 1, spw := 0xD, pc := 2, stack := Vector.replicate 16 ⟨0x1ABC, ⟨true, false, true, false⟩⟩, stk13 := Vector.replicate 16 true } [0x2B]
        (fun t => ((t.cf, t.zf, t.sf), (t.spw, t.eif, t.pc))) =
      some ((true, false, true), (0xE, true, 0x3ABC)) := by decide

/-- IC16: `CLR STK13` -/
theorem test_clrSTK13_IC16 :
    stepped { on' .s470A fun d => { d with stk13Op3 := some 0x84 } with a := 0xE, stk13 := Vector.replicate 16 true } [0x02, 0x3A, 0x84]
        (fun t => ((t.cf, t.zf, t.sf), (t.spw13, t.stk13[14], t.pc))) =
      some ((false, false, true), (0xE, false, 3)) := by decide

/-- IC17: `SET STK13` -/
theorem test_setSTK13_IC17 :
    stepped { on' .s470A fun d => { d with stk13Op3 := some 0x84 } with a := 0xE } [0x03, 0x3A, 0x84]
        (fun t => ((t.cf, t.zf, t.sf), (t.spw13, t.stk13[14], t.pc))) =
      some ((false, false, true), (0xE, true, 3)) := by decide

/-- IC12: `MOV A, SPW13` -/
theorem test_movASPW13_IC12 :
    stepped { on .s470A with a := 0xE } [0x3A, 0x84]
        (fun t => (t.cf, t.zf, t.sf, t.spw13, t.pc)) =
      some (false, false, true, 0xE, 2) := by decide

/-- IC13: `MOV STK13, A` -/
theorem test_movSTK13A_IC13 :
    stepped { on .s470A with a := 0xA, zf := true, spw13 := 0xE, stk13 := Vector.replicate 16 true } [0x3A, 0x04]
        (fun t => (t.a, t.cf, t.zf, t.sf, t.pc)) =
      some (1, false, false, true, 2) := by decide

/-- IC14: `MOV STK13, A` -/
theorem test_movSTK13A_IC14 :
    stepped { on .s470A with a := 0xA, spw13 := 0xE } [0x3A, 0x04]
        (fun t => (t.a, t.cf, t.zf, t.sf, t.pc)) =
      some (0, false, true, true, 2) := by decide

/-- IC18: `NOP` -/
theorem test_nop_IC18 :
    stepped { on .s47 with a := 1, zf := true } [0x00]
        (fun t => (t.cf, t.zf, t.sf, t.pc)) =
      some (false, true, false, 1) := by decide

/-- IC19: `NOP` -/
theorem test_nop_IC19 :
    stepped { on .s47 with zf := true, pc := 0xFFF } [0x00]
        (fun t => (t.cf, t.zf, t.sf, t.pc)) =
      some (false, true, false, 0) := by decide

/-! ### Faults -/

/-- DT4 -/
theorem test_fault_misalignedPair :
    stopped { on .s47 with ram := [(0x76, 1), (0x77, 2)] } [0x28, 0x76] =
      some (.misalignedPair 0x76) := by decide

/-- DT9 -/
theorem test_fault_romReadOutsideRom :
    stopped { on' .s470 fun d => { d with romSize := 4096 } with a := 5, dc := 0x123 } [0x33] =
      some (.romReadOutsideRom 0x1123) := by decide

/-- DT25 -/
theorem test_fault_guardedRam :
    stopped { on .s47 with a := 9, h := 0xC, cf := true } [0x0C] =
      some (.guardedRam 0 0xC0) := by decide

/-- IO4 -/
theorem test_fault_illegalInstruction :
    stopped { on .s47 with a := 5 } [0x3A, 0x03] =
      some (.illegalInstruction 0x0000 [0x3A, 0x03]) := by decide

/-- IO8 -/
theorem test_fault_portAbsent :
    stopped { on' .s47 fun d => { d with portKind := Vector.replicate 32 .absent } with a := 3 } [0x3A, 0x85] =
      some (.portAbsent 0x05) := by decide

/-- IO9 -/
theorem test_fault_reservedPort :
    stopped { on .s470 with a := 3 } [0x3A, 0x89] =
      some (.reservedPort 0x09) := by decide

/-- SU5 -/
theorem test_fault_stackLocationUnusable :
    stopped { on .s47 with cf := true, zf := true, spw := 0xF, pc := 0x200 } [0x20, 0x00] =
      some (.stackLocationUnusable 0xF) := by decide

/-- IC20 -/
theorem test_fault_fetchOutsideRom :
    stopped { on' .s47 fun d => { d with romSize := 2048 } with zf := true, pc := 0x7FF } [0x3C] =
      some (.fetchOutsideRom 0x0800) := by decide

/-- MX1 -/
theorem test_fault_ramNotImplemented :
    stopped { on' .s470A fun d => { d with ramImplemented := [⟨0, 0, 0xFF⟩, ⟨1, 0, 0xFF⟩] } with a := 1, h := 2, dmb := 3 } [0x0C] =
      some (.ramNotImplemented 3 0x20) := by decide

/-! ### Interrupts -/

/-- The hypothesis of MX3: latch 5 is enabled whatever EIR holds, with vector 0002H. -/
def intState : State :=
  { on' .s47 (fun d => { d with intConfig := { d.intConfig with
      enabledAt := Vector.replicate 6 0xFFFF, vector := Vector.replicate 6 2 } }) with
    pc := 0x123, cf := true, sf := true, spw := 0xE, eif := true, il := 0x20 }

/-- MX3: entry. -/
theorem test_interrupt_entry_MX3 : stepped intState [] (fun t => (t.pc, t.spw, t.eif, t.il, t.stack[14], t.stk13[14])) =
    some (2, 0xD, false, 0, ⟨0x123, ⟨true, false, true, false⟩⟩, false) := by decide

/-- MX4: no entry with EIF = 0; the instruction at 0123H runs and IL5 stays. -/
theorem test_no_interrupt_entry_MX4 : stepped { intState with eif := false } [0x00] (fun t => (t.pc, t.spw, t.il)) =
    some (0x124, 0xE, 0x20) := by decide

/-- R304: acceptance delayed past this boundary. -/
theorem test_interrupt_delayed : stepped { intState with schedule := [⟨0, true⟩] } [0x00] (fun t => (t.pc, t.eif, t.il)) =
    some (0x124, true, 0x20) := by decide

/-- R303: a request that arrives at the boundary is accepted there, and its event recorded. -/
theorem test_interrupt_arrives : stepped { intState with il := 0, schedule := [⟨0x20, false⟩] } [] (fun t => (t.pc, t.il, t.events)) =
    some (2, 0, [.irq 5]) := by decide

/-! ### Witnesses: states and operands that meet the hypotheses of the statements of Certificates/Slice0/Obligations.lean -/

/-- A TLCS-470A state whose operands lie at the ends of their ranges: HL names the last unguarded word of bank 0, L the last port and
bit of `@L`, SPW the last usable location. -/
def edge : State :=
  { on .s470A with a := 0xF, h := 0xB, l := 0xF, cf := true, spw := 0xE, ram := [(0xF, 8), (0xBF, 0xF)], pins := [0xF] }

/-- The same with every port an output port. -/
def edgeOut : State := { edge with dev := { edge.dev with portKind := Vector.replicate 32 .output } }

theorem witness_EncodeThenDecode : Device.default.wf = true ∧ (Instr.bss 0x3F).wellFormed Device.default = true ∧
    (Instr.bslBank3 0xFFF).wellFormed Device.default = true := by decide

theorem witness_DecodeThenEncode : Device.default.wf = true ∧ decode Device.default [0x01, 0x6F, 0xFF] = .instr (.bslBank3 0xFFF) [] := by
  decide

theorem witness_LengthFromFirstByte : Device.default.wf = true ∧ (Instr.stKAtHLInc 0xF).wellFormed Device.default = true ∧
    (Instr.stAX 0xFF).wellFormed Device.default = true := by decide

theorem witness_IllegalExactlyUnassigned : Device.default.wf = true ∧ unassigned Device.default 0x36 0x3F 0 = true ∧
    unassigned Device.default 0x36 0x40 0 = false ∧ unassigned Device.default 0x38 0xA0 0 = true ∧
    unassigned Device.default 0x38 0x9F 0 = false ∧ unassigned Device.default 0x3A 0x10 0 = true ∧
    unassigned Device.default 0x03 0x3B 0x59 = false ∧ unassigned Device.default 0x03 0x3B 0x58 = true ∧
    unassigned { Device.default with series := .s47 } 0x1C 0 0 = true ∧
    unassigned { Device.default with series := .s47 } 0x3A 0x0F 0 = true := by decide

theorem witness_AssembledBranchLands : { edge with pc := 0x3FFF }.pcFits ∧ (0x3FFF : CodeAddr).toNat < 2 ^ edge.dev.series.pcw ∧
    { on .s47 with pc := 0xFFF }.pcFits ∧ (0xFFF : CodeAddr).toNat < 2 ^ (on .s47).dev.series.pcw := by decide

/-- At the top of program memory: `LD A, #0FH` in the last byte. -/
def lastByte : State := { edge with pc := 0x3FFF, rom := [(0x3FFF, 0x4F)] }

theorem witness_StepRunsDecodedInstruction : lastByte.accepted = none ∧ (∀ a ∈ lastByte.fetchAddrs, a.toNat < lastByte.dev.romSize) ∧
    decode lastByte.dev lastByte.fetchBytes = .instr (.ldAK 0xF) [] := by decide

theorem witness_StepRunsEncodedInstruction : lastByte.dev.wf = true ∧ (Instr.ldAK 0xF).wellFormed lastByte.dev = true ∧
    encode lastByte.dev (.ldAK 0xF) = some [0x4F] ∧ lastByte.accepted = none ∧
    (lastByte.npc 0).toNat < lastByte.dev.romSize ∧ lastByte.romByte (lastByte.npc 0) = 0x4F := by decide

/-- `LD A, x` whose second byte lies past a program memory of 2048 bytes (IC20). -/
def cutShort : State := { on' .s47 (fun d => { d with romSize := 2048 }) with pc := 0x7FF, rom := [(0x7FF, 0x3C)] }

theorem witness_StepFetchAndDecodeFaults : cutShort.accepted = none ∧ 1 < cutShort.fetchLength ∧
    (cutShort.npc 0).toNat < cutShort.dev.romSize ∧ cutShort.dev.romSize ≤ (cutShort.npc 1).toNat ∧
    { edge with rom := [(0, 0x36), (1, 0x3F)] }.accepted = none ∧ { edge with rom := [(0, 0x36), (1, 0x3F)] }.fetchLength = 2 ∧
    decode edge.dev { edge with rom := [(0, 0x36), (1, 0x3F)] }.fetchBytes = .illegal [0x36, 0x3F] := by decide

/-- A TLCS-470A with data memory 00H to 7FH of bank 0 only, program memory of 4096 bytes and no port 1FH. -/
def small : State :=
  on' .s470A fun d => { d with
    romSize := 4096, ramImplemented := [⟨0, 0x00, 0x7F⟩], stackAliasGuard := [⟨0, 0x70, 0xFF⟩]
    portKind := (Vector.replicate 32 .io).set 0x1F .absent }

/-- The data-memory clauses at the ends of the two ranges: the word exists and is free, is guarded, does not exist (guarded or not). -/
theorem witness_AccessChecks_ram : small.ramFault ⟨0, 0x6F⟩ = none ∧ small.ramFault ⟨0, 0x70⟩ = some (.guardedRam 0 0x70) ∧
    small.ramFault ⟨0, 0x7F⟩ = some (.guardedRam 0 0x7F) ∧ small.ramFault ⟨0, 0x80⟩ = some (.ramNotImplemented 0 0x80) ∧
    small.ramFault ⟨1, 0x00⟩ = some (.ramNotImplemented 1 0x00) := by decide

/-- The table clauses at the last byte of program memory and the first past it; the stack clauses at locations 14, 15 and 0. -/
theorem witness_AccessChecks_table_stack : small.tableFault 0x0FFF = none ∧
    small.tableFault 0x1000 = some (.romReadOutsideRom 0x1000) ∧ small.stackFault 14 = none ∧
    small.stackFault 15 = some (.stackLocationUnusable 15) ∧ small.stackFault 0 = none := by decide

/-- The port clauses: an absent port and its neighbour, 09H and 14H and their neighbours on each series, and a reserved port that is also
absent. -/
theorem witness_AccessChecks_port : small.portFault 0x1F = some (.portAbsent 0x1F) ∧ small.portFault 0x1E = none ∧
    small.portFault 0x09 = some (.reservedPort 0x09) ∧ small.portFault 0x08 = none ∧ small.portFault 0x0A = none ∧
    small.portFault 0x14 = some (.reservedPort 0x14) ∧ small.portFault 0x13 = none ∧ small.portFault 0x15 = none ∧
    (on .s470).portFault 0x09 = some (.reservedPort 0x09) ∧ (on .s470).portFault 0x14 = none ∧
    (on .s47).portFault 0x09 = none ∧ (on .s47).portFault 0x14 = none ∧
    (on' .s470A fun d => { d with portKind := Vector.replicate 32 .absent }).portFault 0x09 = some (.reservedPort 0x09) := by decide

theorem witness_MisalignedPairRule : (0x01 : Byte).toNat % 4 ≠ 0 ∧ (0xFF : Byte).toNat % 4 ≠ 0 ∧
    exec (.ldHLX 0xFF) edge = .fault (.misalignedPair 0xFF) ∧ exec (.xchHLX 0x01) edge = .fault (.misalignedPair 0x01) :=
  ⟨by decide, by decide, rfl, rfl⟩

/-- Both ends of the latch at one boundary, beside a port event that stays. -/
theorem witness_BoundarySetsLatches :
    let s : State := { on .s47 with il := 0x01, events := [.portIn 0x1F 0xF], schedule := [⟨0x21, false⟩, ⟨0, true⟩] }
    (s.boundary.il, s.boundary.events, s.boundary.schedule) = (0x21, [.irq 5, .irq 0, .portIn 0x1F 0xF], [⟨0, true⟩]) := by decide

theorem witness_AcceptedExactlyWhenPending : intState.accepted = some 5 ∧ (∀ j : Fin 6, j ∈ intState.dev.intConfig.order) ∧
    intState.boundary.il.getLsbD 5 = true ∧ IntConfig.enabled intState.dev.intConfig 5 intState.eir = true := by decide

theorem witness_InterruptEntry : intState.accepted = some 5 ∧ intState.stackFault intState.spw = none ∧
    { intState with spw := 0 }.stackFault 0 = none := by decide

theorem witness_RetiUndoesEntry : intState.pcFits ∧ intState.accepted = some 5 ∧ ∃ t, step intState = .next t :=
  ⟨by decide, by decide, _, rfl⟩

theorem witness_RetUndoesCall : edge.stackFault edge.spw = none ∧ { edge with spw := 0 }.stackFault 0 = none := by decide

theorem witness_ResetHasInvariant : Device.default.resetPc.toNat < 2 ^ Device.default.series.pcw ∧
    (0x3FFF : CodeAddr).toNat < 2 ^ Series.s470.pcw := by decide

theorem witness_StepKeepsInvariant : State.Inv lastByte ∧ ∃ t, step lastByte = .next t :=
  ⟨⟨by decide, by decide, by decide, by decide, by decide⟩, _, rfl⟩

theorem witness_ProgramMemoryNeverWritten : ∃ t, Host.Core.run Sys2Proof.core 2 edge = .next t := ⟨_, rfl⟩

theorem witness_ProtectedWordsNeverWritten : (∃ t, Host.Core.run Sys2Proof.core 1 edge = .next t) ∧
    (⟨0, 0xC0⟩ : DataAddr).inSome edge.dev.stackAliasGuard ∧ (⟨0, 0xFF⟩ : DataAddr).inSome edge.dev.stackAliasGuard ∧
    ¬ (⟨3, 0xFF⟩ : DataAddr).inSome [] :=
  ⟨⟨_, rfl⟩, inRanges_iff.1 (by decide), inRanges_iff.1 (by decide), fun h => by obtain ⟨_, h, _⟩ := h; cases h⟩

theorem witness_FlagWriters : (∃ t, exec .nop edge = .next t) ∧ writesCF .nop = false ∧ keepsFlags .nop = true :=
  ⟨⟨_, rfl⟩, by decide, by decide⟩

theorem witness_GeneralRegisterWriters : (∃ t, exec .nop edge = .next t) ∧ writesA .nop = false ∧ writesH .nop = false ∧
    writesL .nop = false := ⟨⟨_, rfl⟩, by decide⟩

theorem witness_SpecialRegisterWriters : (∃ t, exec .nop edge = .next t) ∧ writesDMB .nop = false ∧ usesStack .nop = false ∧
    writesSPW13 .nop = false ∧ writesEIF .nop = false ∧ clearsIL .nop = false ∧ Instr.nop ≠ .ldhAAtDCInc ∧
    Instr.nop ≠ .xchAEIR ∧ Instr.nop ≠ .clrSTK13 ∧ Instr.nop ≠ .setSTK13 := ⟨⟨_, rfl⟩, by decide⟩

/-- The clause on latches: one that is still set after `CLR IL` was set before. -/
theorem witness_SpecialRegisterWriters_latch : stepped { on .s47 with il := 0x3F } [0x36, 0xE0] (fun t => t.il.getLsbD 5) = some true := by
  decide

theorem witness_MemoryAndPortWriters : (∃ t, exec .nop edge = .next t) ∧ writesRam .nop = false ∧ writesPorts .nop = false ∧
    readsPins .nop = false := ⟨⟨_, rfl⟩, by decide⟩

theorem witness_PcAdvancesPastInstruction : (∃ t, exec .nop edge = .next t) ∧ writesPc .nop = false := ⟨⟨_, rfl⟩, by decide⟩

theorem witness_OperandAddresses : (on .s47).dev.series = .s47 ∧ (on .s470).dev.series = .s470 ∧ edge.dev.series = .s470A := by
  decide

theorem witness_TableAddresses : (on .s47).dev.series = .s47 ∧ (on .s470).dev.series = .s470 ∧ edge.dev.series = .s470A ∧
    32 ≤ (on' .s47 fun d => { d with romSize := 32 }).dev.romSize ∧
    (on .s470).dev.romSize ≤ 2 ^ (on .s470).dev.series.pcw := by decide

/-- The data-memory premises, at the last words that pass: @HL and x below the guard of bank 0, x in bank 3, y = FH. -/
theorem witness_data_memory : Memory.wf edge.ram ∧ edge.ramFault edge.eaHL = none ∧ edge.ramFault (edge.eaX 0xBF) = none ∧
    { edge with dmb := 3 }.ramFault ({ edge with dmb := 3 }.eaX 0xFF) = none ∧ edge.ramFault (eaY 0xF) = none := by decide

theorem witness_LoadAccumulator : edge.ramFault edge.eaHL = none ∧ edge.ramFault (edge.eaX 0x00) = none := by decide

theorem witness_TableLookup : { edge with dtb := 3, dc := 0xFFF }.tableAddr.toNat < edge.dev.romSize := by decide

theorem witness_LoadHL : (0xBC : Byte).toNat % 4 = 0 ∧ edge.ramFault (edge.eaX 0xBC) = none ∧
    edge.ramFault (edge.eaX (0xBC + 1)) = none := by decide

theorem witness_StoreWord : Memory.wf edge.ram ∧ edge.ramFault edge.eaHL = none ∧ edge.ramFault (edge.eaX 0xBF) = none ∧
    edge.ramFault (eaY 0xF) = none := by decide

theorem witness_StoreAndStep : Memory.wf edge.ram ∧ edge.ramFault edge.eaHL = none ∧
    { edge with l := 0 }.ramFault { edge with l := 0 }.eaHL = none := by decide

theorem witness_ExchangeMemory : Memory.wf edge.ram ∧ edge.ramFault edge.eaHL = none ∧ edge.ramFault (edge.eaX 0xBF) = none ∧
    (0xBC : Byte).toNat % 4 = 0 ∧ edge.ramFault (edge.eaX 0xBC) = none ∧ edge.ramFault (edge.eaX (0xBC + 1)) = none := by decide

theorem witness_InputPort : Memory.wf edge.ram ∧ edge.pins = [0xF] ∧ edge.portFault (portLow 0xF) = none ∧
    edge.portFault (portHigh 0xF) = none ∧ edge.ramFault edge.eaHL = none := by decide

theorem witness_OutputPort : edge.portFault 0x00 = none ∧ edge.portFault 0x1F = none ∧ edge.ramFault edge.eaHL = none ∧
    edge.portFault (portLow 0xF) = none := by decide

theorem witness_OutputTable : 32 ≤ edge.dev.romSize ∧ edge.dev.romSize ≤ 2 ^ edge.dev.series.pcw ∧
    edge.ramFault edge.eaHL = none ∧ edge.portFault 0x01 = none ∧ edge.portFault 0x02 = none := by decide

theorem witness_CompareInstructions : edge.ramFault edge.eaHL = none ∧ edge.ramFault (edge.eaX 0xBF) = none ∧
    edge.ramFault (eaY 0x0) = none := by decide

theorem witness_AddToRegister : edge.ramFault edge.eaHL = none := by decide

theorem witness_AddSubtractWithCarry : edge.ramFault edge.eaHL = none ∧ edge.readRam edge.eaHL = 0xF ∧ edge.a = 0xF := by decide

theorem witness_MemoryArithmetic : Memory.wf edge.ram ∧ edge.ramFault edge.eaHL = none ∧ edge.ramFault (eaY 0xF) = none := by decide

theorem witness_LogicalOperations : edge.ramFault edge.eaHL = none ∧ Memory.wf edge.ram := by decide

theorem witness_MemoryBits : Memory.wf edge.ram ∧ edge.ramFault edge.eaHL = none ∧ edge.ramFault (eaY 0xF) = none := by decide

theorem witness_PortBits : edge.portFault (portLow 0xF) = none ∧ (0x07 : BitVec 5).toNat = 4 + edge.l.toNat / 4 ∧
    edge.portFault 0x07 = none := by decide

theorem witness_MemoryBitTests : edge.ramFault edge.eaHL = none ∧ edge.ramFault (eaY 0xF) = none := by decide

theorem witness_PortBitTests : edge.portFault (portLow 0xF) = none ∧ Device.kindOf edge.dev (portLow 0xF) ≠ .output ∧
    edgeOut.portFault (portLow 0xF) = none ∧ Device.kindOf edgeOut.dev (portLow 0xF) = .output ∧
    (0x07 : BitVec 5).toNat = 4 + edge.l.toNat / 4 ∧ edge.portFault 0x07 = none ∧ Device.kindOf edge.dev 0x07 ≠ .output ∧
    edgeOut.portFault 0x07 = none ∧ Device.kindOf edgeOut.dev 0x07 = .output := by decide

theorem witness_FlagInstructions : (on .s47).dev.series = .s47 := by decide

theorem witness_BankBits : (on .s470).dev.series = .s470 ∧ { on .s470 with dmb := 1 }.dmbFits ∧ edge.dev.series = .s470A := by
  decide

theorem witness_BankTransfers : edge.dev.series = .s470A ∧ edge.ramFault edge.eaHL = none ∧ Memory.wf edge.ram := by decide

theorem witness_Branches : edge.dev.series ≠ .s47 := by decide

theorem witness_Calls : edge.stackFault edge.spw = none ∧ { edge with spw := 0 }.stackFault 0 = none := by decide

theorem witness_Returns : (0 : Fin 16).val = ({ edge with spw := 0xF }.spw.toNat + 1) % 16 ∧
    edge.dev.stackUsable.getLsbD (0 : Fin 16) = true ∧ (14 : Fin 16).val = ({ edge with spw := 0xD }.spw.toNat + 1) % 16 ∧
    edge.dev.stackUsable.getLsbD (14 : Fin 16) = true ∧ (on .s47).dev.series = .s47 := by decide

theorem witness_Stk13Instructions : edge.dev.series = .s470A := by decide

end Sys2Proof.Tests
end

section
/-! SUPPORT. 10_state.md: which fields of the state an instruction may write, as one equation (`exec_frame`) that holds for every
instruction; what it puts into the fields that the invariant is about; and the statements on writers, pc, reset and the invariant. -/

open Sys2Proof

namespace Sys2Proof.Machine

/-! ### The frame of an instruction -/

/-- The frame of every instruction, in the tables of Safety.lean: a field that the instruction's tables do not name is as before, and
pc goes on at the next row unless the instruction is a branch, a call or a return. The cases are the instructions that read a port bit
(which may draw a pin), those that check no access, and those that check one. -/
theorem exec_frame {i : Instr} {s t : State} (h : exec i s = .next t) :
    t = { s with
      pc := if writesPc i then t.pc else s.npc i.length
      ram := if writesRam i then t.ram else s.ram
      a := if writesA i then t.a else s.a
      h := if writesH i then t.h else s.h
      l := if writesL i then t.l else s.l
      cf := if writesCF i then t.cf else s.cf
      zf := if keepsFlags i then s.zf else t.zf
      sf := if keepsFlags i then s.sf else t.sf
      gf := if i = .clrGF ∨ i = .setGF ∨ i = .reti then t.gf else s.gf
      dmb := if writesDMB i then t.dmb else s.dmb
      dc := if i = .ldhAAtDCInc then t.dc else s.dc
      spw := if usesStack i then t.spw else s.spw
      stack := if usesStack i then t.stack else s.stack
      stk13 := if usesStack i ∨ i = .clrSTK13 ∨ i = .setSTK13 then t.stk13 else s.stk13
      spw13 := if writesSPW13 i then t.spw13 else s.spw13
      eir := if i = .xchAEIR then t.eir else s.eir
      eif := if writesEIF i then t.eif else s.eif
      il := if clearsIL i then t.il else s.il
      latch := if writesPorts i then t.latch else s.latch
      pins := if readsPins i then t.pins else s.pins
      events := if writesPorts i ∨ readsPins i then t.events else s.events
      freeCount := t.freeCount } := by
  cases i with
  | testPB | testpPB | testAtL =>
    obtain ⟨-, rfl⟩ := checked_eq_next.1 h
    unfold State.bitSourced
    split <;> rfl
  | ldAK | ldHK | ldLK | ldHLJK | movHA | movLA | xchAH | xchAL | cmprAK | cmprHK | cmprLK | addAK | addHK | addLK
  | subrAK | incA | decA | incL | decL | andAK | orAK | rolcA | rorcA | testAB | testCF | testpCF | testpZF | clrGF
  | setGF | testpGF | clrDMB | setDMB | testDMB | testpDMB | clrDMB0 | setDMB0 | testDMB0 | testpDMB0 | clrDMB1
  | setDMB1 | testDMB1 | testpDMB1 | ldDMBK | movADMB | movDMBA | bss | bs | bslBank0 | bslBank1 | bslBank2 | bslBank3
  | xchAEIR | eiclr | ei | diclr | di | clrIL | clrSTK13 | setSTK13 | movASPW13 | movSTK13A | nop =>
    cases h
    rfl
  | _ =>
    obtain ⟨-, rfl⟩ := checked_eq_next.1 h
    rfl

section Frame

variable {i : Instr} {s t : State}

theorem exec_dev (h : exec i s = .next t) : t.dev = s.dev := by rw [exec_frame h]

theorem exec_rom (h : exec i s = .next t) : t.rom = s.rom := by rw [exec_frame h]

theorem exec_ram (h : exec i s = .next t) (hw : writesRam i = false) : t.ram = s.ram :=
  (congrArg State.ram (exec_frame h)).trans (if_neg (ne_true_of_eq_false hw))

theorem exec_pc (h : exec i s = .next t) (hw : writesPc i = false) : t.pc = s.npc i.length :=
  (congrArg State.pc (exec_frame h)).trans (if_neg (ne_true_of_eq_false hw))

theorem exec_a (h : exec i s = .next t) (hw : writesA i = false) : t.a = s.a :=
  (congrArg State.a (exec_frame h)).trans (if_neg (ne_true_of_eq_false hw))

theorem exec_h (h : exec i s = .next t) (hw : writesH i = false) : t.h = s.h :=
  (congrArg State.h (exec_frame h)).trans (if_neg (ne_true_of_eq_false hw))

theorem exec_l (h : exec i s = .next t) (hw : writesL i = false) : t.l = s.l :=
  (congrArg State.l (exec_frame h)).trans (if_neg (ne_true_of_eq_false hw))

theorem exec_cf (h : exec i s = .next t) (hw : writesCF i = false) : t.cf = s.cf :=
  (congrArg State.cf (exec_frame h)).trans (if_neg (ne_true_of_eq_false hw))

theorem exec_zf (h : exec i s = .next t) (hk : keepsFlags i = true) : t.zf = s.zf :=
  (congrArg State.zf (exec_frame h)).trans (if_pos hk)

theorem exec_sf (h : exec i s = .next t) (hk : keepsFlags i = true) : t.sf = s.sf :=
  (congrArg State.sf (exec_frame h)).trans (if_pos hk)

theorem exec_dmb (h : exec i s = .next t) (hw : writesDMB i = false) : t.dmb = s.dmb :=
  (congrArg State.dmb (exec_frame h)).trans (if_neg (ne_true_of_eq_false hw))

theorem exec_dtb (h : exec i s = .next t) : t.dtb = s.dtb := by rw [exec_frame h]

theorem exec_dc (h : exec i s = .next t) (hi : i ≠ .ldhAAtDCInc) : t.dc = s.dc :=
  (congrArg State.dc (exec_frame h)).trans (if_neg hi)

theorem exec_spw (h : exec i s = .next t) (hw : usesStack i = false) : t.spw = s.spw :=
  (congrArg State.spw (exec_frame h)).trans (if_neg (ne_true_of_eq_false hw))

theorem exec_stack (h : exec i s = .next t) (hw : usesStack i = false) : t.stack = s.stack :=
  (congrArg State.stack (exec_frame h)).trans (if_neg (ne_true_of_eq_false hw))

theorem exec_stk13 (h : exec i s = .next t) (hw : usesStack i = false) (hc : i ≠ .clrSTK13) (hs : i ≠ .setSTK13) :
    t.stk13 = s.stk13 :=
  (congrArg State.stk13 (exec_frame h)).trans (if_neg (by simp [hw, hc, hs]))

theorem exec_spw13 (h : exec i s = .next t) (hw : writesSPW13 i = false) : t.spw13 = s.spw13 :=
  (congrArg State.spw13 (exec_frame h)).trans (if_neg (ne_true_of_eq_false hw))

theorem exec_eir (h : exec i s = .next t) (hi : i ≠ .xchAEIR) : t.eir = s.eir :=
  (congrArg State.eir (exec_frame h)).trans (if_neg hi)

theorem exec_eif (h : exec i s = .next t) (hw : writesEIF i = false) : t.eif = s.eif :=
  (congrArg State.eif (exec_frame h)).trans (if_neg (ne_true_of_eq_false hw))

theorem exec_il (h : exec i s = .next t) (hw : clearsIL i = false) : t.il = s.il :=
  (congrArg State.il (exec_frame h)).trans (if_neg (ne_true_of_eq_false hw))

/-- R24: no instruction that keeps all three flags is a writer of CF. -/
theorem writesCF_of_keepsFlags (hk : keepsFlags i = true) : writesCF i = false := by
  cases i with
  | nop | call | calls | callss | ret => rfl
  | _ => cases hk

/-! ### What goes into the fields of the invariant -/

/-- R36: the three instructions that write the interrupt latches mask them. -/
theorem exec_il_of_clearsIL (h : exec i s = .next t) (hw : clearsIL i = true) : ∃ r, t.il = s.il &&& r := by
  cases i with
  | eiclr r | diclr r | clrIL r =>
    cases h
    exact ⟨r, rfl⟩
  | _ => cases hw

/-- R36: an instruction sets no interrupt latch. -/
theorem exec_il_subset (h : exec i s = .next t) (j : Nat) (hj : t.il.getLsbD j = true) : s.il.getLsbD j = true := by
  cases hw : clearsIL i with
  | false => rwa [exec_il h hw] at hj
  | true =>
    obtain ⟨r, hr⟩ := exec_il_of_clearsIL h hw
    rw [hr, BitVec.getLsbD_and, Bool.and_eq_true] at hj
    exact hj.1

/-- R27: what an instruction writes to DMB is narrowed to the width of the series. -/
theorem exec_dmb_of_writesDMB (h : exec i s = .next t) (hw : writesDMB i = true) :
    ∃ v, t.dmb = narrowDmb s.dev.series v := by
  cases i with
  | clrDMB | setDMB | clrDMB0 | setDMB0 | clrDMB1 | setDMB1 | ldDMBK | movADMB =>
    cases h
    exact ⟨_, rfl⟩
  | ldDMBAtHL =>
    obtain ⟨-, rfl⟩ := checked_eq_next.1 h
    exact ⟨_, rfl⟩
  | _ => cases hw

/-- A branch ends at the width of PC, taken or not. -/
theorem State.branch_pc_lt (s : State) (n : Nat) (a : CodeAddr) : (s.branch n a).pc.toNat < 2 ^ s.dev.series.pcw := by
  rw [State.branch_pc]
  split
  · exact wrapPc_lt _ _
  · exact s.npc_lt n

/-- A call ends at the width of PC. -/
theorem State.callTo_pc_lt {n : Nat} {a : CodeAddr} (h : s.callTo n a = .next t) : t.pc.toNat < 2 ^ s.dev.series.pcw := by
  obtain ⟨-, rfl⟩ := State.callTo_eq_next.1 h
  exact wrapPc_lt _ _

/-- R22: every instruction leaves PC at the width of the series. -/
theorem exec_pc_lt (h : exec i s = .next t) : t.pc.toNat < 2 ^ s.dev.series.pcw := by
  cases hw : writesPc i with
  | false => exact exec_pc h hw ▸ s.npc_lt i.length
  | true =>
    cases i with
    | bss | bs | bslBank0 | bslBank1 | bslBank2 | bslBank3 =>
      cases h
      exact s.branch_pc_lt _ _
    | calls | callss | call => exact State.callTo_pc_lt h
    | ret =>
      obtain ⟨-, rfl⟩ := checked_eq_next.1 h
      exact s.popPc_lt
    | reti =>
      obtain ⟨-, rfl⟩ := State.returnFromInterrupt_eq_next.1 h
      exact s.popPc_lt
    | _ => cases hw

/-! ### Data memory after an instruction -/

/-- A data memory that `s` can reach by stores to words that pass the check of an access and lie in the banks of the series. -/
inductive Stored (s : State) : Memory 4 → Prop
  | same : Stored s s.ram
  | store {m : Memory 4} {ea : DataAddr} (v : Nibble) (hm : Stored s m) (hea : s.ramFault ea = none)
      (hkey : ea.key < 256 * s.dev.series.nbank) : Stored s (Memory.write m ea.key v)

/-- Stores keep the canonical form. -/
theorem Stored.wf {m : Memory 4} (hm : Stored s m) (hs : Memory.wf s.ram) : Memory.wf m := by
  induction hm with
  | same => exact hs
  | store v _ _ _ ih => exact Memory.write_wf ih _ v

/-- Stores keep data memory within the banks of the series. -/
theorem Stored.fits {m : Memory 4} (hm : Stored s m) (hs : s.ramFits) : ∀ c ∈ m, c.1 < 256 * s.dev.series.nbank := by
  induction hm with
  | same => exact hs
  | store v _ _ hkey ih =>
    intro c hc
    rcases Memory.mem_write hc with rfl | hc
    · exact hkey
    · exact ih c hc

/-- A store to the bank in force: the modes `@HL` and `x` (20_memory.md R51). -/
theorem Stored.inBank {m : Memory 4} {x : Byte} (v : Nibble) (hm : Stored s m) (hea : s.ramFault (s.eaX x) = none) :
    Stored s (Memory.write m (s.eaX x).key v) :=
  .store v hm hea (key_lt_of_dmbv s x)

/-- A store to the zero page: the mode `y` (R51). -/
theorem Stored.inZeroPage {m : Memory 4} {y : Nibble} (v : Nibble) (hm : Stored s m) (hea : s.ramFault (eaY y) = none) :
    Stored s (Memory.write m (eaY y).key v) := by
  refine .store v hm hea ?_
  have hy := key_eaY_lt y
  have hb := Nat.zero_lt_of_lt (narrowDmb_lt s.dev.series s.dmb)
  omega

/-- R54, R56, R59: data memory after any instruction is reached by checked stores. The cases are the addressing modes. -/
theorem exec_stored (h : exec i s = .next t) : Stored s t.ram := by
  cases hw : writesRam i with
  | false => exact exec_ram h hw ▸ .same
  | true =>
    cases i with
    | stAAtHL | stAAtHLInc | stAAtHLDec | stKAtHLInc | xchAAtHL | addAtHLK | subrAtHLK | incAtHL | decAtHL | andAtHLK
    | orAtHLK | clrAtHLB | setAtHLB | stDMBAtHL | inPAtHL | inPAtHLHigh | stAX | xchAX =>
      obtain ⟨hf, rfl⟩ := checked_eq_next.1 h
      exact .inBank _ .same (firstFault_eq_none.1 hf _ (by simp [State.eaX, State.eaHL]))
    | stKY | addYK | clrYB | setYB =>
      obtain ⟨hf, rfl⟩ := checked_eq_next.1 h
      exact .inZeroPage _ .same (firstFault_eq_none.1 hf _ (by simp))
    | xchHLX =>
      obtain ⟨hf, rfl⟩ := checked_eq_next.1 h
      exact .inBank _ (.inBank _ .same (firstFault_eq_none.1 hf _ (by simp))) (firstFault_eq_none.1 hf _ (by simp))
    | _ => cases hw

end Frame

/-! ### The invariant -/

/-- The environment's part of a step touches no field of the invariant. -/
theorem State.Inv.boundary {s : State} (hs : s.Inv) : s.boundary.Inv :=
  ⟨hs.ramWf, hs.romWf, hs.pcFits, hs.dmbFits, hs.ramFits⟩

/-- An interrupt entry keeps the invariant: the vector is taken at the width of PC (60_exceptions.md R304). -/
theorem State.Inv.of_takeInterrupt {s t : State} {j : Fin 6} (hs : s.Inv) (h : s.takeInterrupt j = .next t) : t.Inv := by
  obtain ⟨-, rfl⟩ := State.takeInterrupt_eq_next.1 h
  exact ⟨hs.ramWf, hs.romWf, wrapPc_lt _ _, hs.dmbFits, hs.ramFits⟩

/-- R27: every instruction keeps DMB at the width of the series. -/
theorem exec_dmbFits {i : Instr} {s t : State} (hs : s.dmbFits) (h : exec i s = .next t) : t.dmbFits := by
  show narrowDmb t.dev.series t.dmb = t.dmb
  rw [exec_dev h]
  cases hw : writesDMB i with
  | false => rw [exec_dmb h hw, hs]
  | true =>
    obtain ⟨v, hv⟩ := exec_dmb_of_writesDMB h hw
    rw [hv, narrowDmb_narrowDmb]

/-- Every instruction keeps the invariant. -/
theorem State.Inv.of_exec {i : Instr} {s t : State} (hs : s.Inv) (h : exec i s = .next t) : t.Inv where
  ramWf := (exec_stored h).wf hs.ramWf
  romWf := exec_rom h ▸ hs.romWf
  pcFits := by
    show t.pc.toNat < 2 ^ t.dev.series.pcw
    rw [exec_dev h]
    exact exec_pc_lt h
  dmbFits := exec_dmbFits hs.dmbFits h
  ramFits := by
    show ∀ c ∈ t.ram, c.1 < 256 * t.dev.series.nbank
    rw [exec_dev h]
    exact (exec_stored h).fits hs.ramFits

/-- The reset state of a device has the invariant where RESET_PC fits its PC (log 3, 4, 7). -/
theorem State.resetOn_inv {d : Device} (hpc : d.resetPc.toNat < 2 ^ d.series.pcw) : (State.resetOn d).Inv where
  ramWf := Memory.wf_nil
  romWf := Memory.wf_nil
  pcFits := hpc
  dmbFits := by
    show narrowDmb d.series 0 = 0
    cases d.series <;> rfl
  ramFits := nofun

/-! ### The statements -/

/-- Settles O21: a step is an interrupt entry or an instruction, after the environment's part, and each of the three keeps the
invariant. -/
theorem stepKeepsInvariant : Obligations.StepKeepsInvariant := by
  intro s t hs h
  rcases s.stepOnce_cases with ⟨j, -, hj⟩ | ⟨-, hi⟩
  · exact hs.boundary.of_takeInterrupt (hj.symm.trans h)
  · obtain ⟨i, r, -, -, he⟩ := State.fetchExec_eq_next (hi.symm.trans h)
    exact hs.boundary.of_exec he

/-- Settles O24, from the frame of an instruction. -/
theorem flagWriters : Obligations.FlagWriters := fun _ _ _ h =>
  ⟨exec_cf h, fun hk => ⟨exec_cf h (writesCF_of_keepsFlags hk), exec_zf h hk, exec_sf h hk⟩⟩

/-- Settles O25, from the frame of an instruction. -/
theorem generalRegisterWriters : Obligations.GeneralRegisterWriters := fun _ _ _ h => ⟨exec_a h, exec_h h, exec_l h⟩

/-- Settles O26, from the frame of an instruction; that latches are only cleared is `exec_il_subset`. -/
theorem specialRegisterWriters : Obligations.SpecialRegisterWriters := fun _ _ _ h =>
  ⟨exec_dmb h, exec_dtb h, exec_dc h, fun hw => ⟨exec_spw h hw, exec_stack h hw⟩, exec_stk13 h, exec_spw13 h, exec_eir h,
    exec_eif h, fun j => exec_il_subset h j, exec_il h⟩

/-- Settles O28: pc is `npc` for the length of the row, by the frame of an instruction. -/
theorem pcAdvancesPastInstruction : Obligations.PcAdvancesPastInstruction := by
  intro i s t h hw
  rw [exec_pc h hw, State.npc_toNat]

/-- Settles O19. -/
theorem resetState : Obligations.ResetState := ⟨fun _ => ⟨rfl, rfl, rfl, rfl, rfl⟩, rfl, rfl⟩

/-- Settles O20; RESET_PC of the model's own device is 0. -/
theorem resetHasInvariant : Obligations.ResetHasInvariant := ⟨State.resetOn_inv (by decide), fun _ => State.resetOn_inv⟩

end Sys2Proof.Machine
end

section
/-! SUPPORT. 20_memory.md: the operand and table addresses as numbers, what each access check answers, which instruction raises
which fault (every instruction is `checked` of its accesses, `exec_eq_checked`), and what no run changes. -/

open Sys2Proof

namespace Sys2Proof.Machine

variable {i : Instr} {s t : State}

/-! ### What a step and a run can do -/

/-- A step that goes on is an interrupt entry or an instruction, after the environment's part (60_exceptions.md R302). -/
theorem step_eq_next (h : step s = .next t) :
    (∃ j, s.boundary.takeInterrupt j = .next t) ∨ ∃ i, exec i s.boundary = .next t := by
  rcases s.stepOnce_cases with ⟨j, -, hj⟩ | ⟨-, hi⟩
  · exact .inl ⟨j, hj.symm.trans h⟩
  · obtain ⟨i, -, -, -, he⟩ := State.fetchExec_eq_next (hi.symm.trans h)
    exact .inr ⟨i, he⟩

/-- A relation between launch and present state that holds at the launch, and that a step in front of a run keeps, holds after any
number of steps. -/
theorem run_relates {R : State → State → Prop} (hrefl : ∀ s, R s s)
    (hstep : ∀ {s u t}, step s = .next u → R u t → R s t) {k : Nat} (h : Host.Core.run Sys2Proof.core k s = .next t) :
    R s t := by
  induction k generalizing s with
  | zero =>
    cases h
    exact hrefl _
  | succ k ih =>
    obtain ⟨u, hu, hk⟩ := run_succ_next h
    exact hstep hu (ih hk)

/-- R42: no step changes the parameters. -/
theorem step_dev (h : step s = .next t) : t.dev = s.dev := by
  rcases step_eq_next h with ⟨j, hj⟩ | ⟨i, hi⟩
  · obtain ⟨-, rfl⟩ := State.takeInterrupt_eq_next.1 hj
    rfl
  · exact (exec_dev hi).trans s.boundary_dev

/-- R72: no step changes program memory. -/
theorem step_rom (h : step s = .next t) : t.rom = s.rom := by
  rcases step_eq_next h with ⟨j, hj⟩ | ⟨i, hi⟩
  · obtain ⟨-, rfl⟩ := State.takeInterrupt_eq_next.1 hj
    rfl
  · exact (exec_rom hi).trans s.boundary_rom

/-- Checked stores leave a word alone whose access does not pass. -/
theorem Stored.read_of_fault {m : Memory 4} {ea : DataAddr} (hm : Stored s m) (hea : s.ramFault ea ≠ none) :
    Memory.read m ea.key = s.readRam ea := by
  induction hm with
  | same => rfl
  | store v _ hpass _ ih =>
    rw [Memory.read_write_other, ih]
    intro hkey
    rw [DataAddr.key_injective hkey] at hea
    exact hea hpass

/-- R54, R59: a step leaves a word alone whose access does not pass. -/
theorem step_readRam_of_fault {ea : DataAddr} (h : step s = .next t) (hea : s.ramFault ea ≠ none) :
    t.readRam ea = s.readRam ea := by
  rcases step_eq_next h with ⟨j, hj⟩ | ⟨i, hi⟩
  · obtain ⟨-, rfl⟩ := State.takeInterrupt_eq_next.1 hj
    rfl
  · exact (exec_stored hi).read_of_fault hea

/-- The check of a data-memory access reads the parameters alone. -/
theorem State.ramFault_congr (h : t.dev = s.dev) (ea : DataAddr) : t.ramFault ea = s.ramFault ea := by
  simp only [State.ramFault, h]

/-! ### What each check answers -/

/-- R54: `RamNotImplemented` exactly outside RamImplemented. -/
theorem State.ramFault_eq_ramNotImplemented {ea : DataAddr} :
    s.ramFault ea = some (.ramNotImplemented ea.bank ea.addr) ↔ ¬ ea.inSome s.dev.ramImplemented := by
  rw [← inRanges_iff, State.ramFault]
  split
  · simp_all
  · split <;> simp_all

/-- R59, R302: `GuardedRam` exactly on the guarded words that the device has. -/
theorem State.ramFault_eq_guardedRam {ea : DataAddr} :
    s.ramFault ea = some (.guardedRam ea.bank ea.addr) ↔
      ea.inSome s.dev.ramImplemented ∧ ea.inSome s.dev.stackAliasGuard := by
  rw [← inRanges_iff, ← inRanges_iff, State.ramFault]
  split
  · simp_all
  · split <;> simp_all

/-- R54, R59: a data-memory access passes exactly on the words that the device has and that are not guarded. -/
theorem State.ramFault_eq_none_iff_inSome {ea : DataAddr} :
    s.ramFault ea = none ↔ ea.inSome s.dev.ramImplemented ∧ ¬ ea.inSome s.dev.stackAliasGuard := by
  rw [State.ramFault_eq_none, inRanges_iff, ← Bool.not_eq_true, inRanges_iff]

/-- R57: `RomReadOutsideRom` exactly at or above ROM_SIZE. -/
theorem State.tableFault_eq_some {a : CodeAddr} :
    s.tableFault a = some (.romReadOutsideRom a) ↔ s.dev.romSize ≤ a.toNat := by
  simp [State.tableFault]

/-- R64: the reserved port addresses of each series (log 23). -/
theorem portReserved_iff {r : Series} {p : BitVec 5} :
    portReserved r p = true ↔ (r ≠ .s47 ∧ p = 0x09) ∨ (r = .s470A ∧ p = 0x14) := by
  simp [portReserved]

/-- R64: `ReservedPort` exactly on a reserved address. -/
theorem State.portFault_eq_reservedPort {p : BitVec 5} :
    s.portFault p = some (.reservedPort p) ↔ portReserved s.dev.series p = true := by
  rw [State.portFault]
  split
  · simp_all
  · split <;> simp_all

/-- R60, R302: `PortAbsent` exactly on an absent port whose address is not reserved. -/
theorem State.portFault_eq_portAbsent {p : BitVec 5} :
    s.portFault p = some (.portAbsent p) ↔
      ¬ portReserved s.dev.series p = true ∧ Device.kindOf s.dev p = .absent := by
  rw [State.portFault]
  split
  · simp_all
  · split <;> simp_all

/-- 48_subroutine.md R274: `StackLocationUnusable` exactly on a location that is not usable. -/
theorem State.stackFault_eq_some {j : BitVec 4} :
    s.stackFault j = some (.stackLocationUnusable j) ↔ s.dev.stackUsable.getLsbD j.toNat = false := by
  simp [State.stackFault]

/-! ### The accesses of an instruction -/

/-- R53: the check of the pair operand, as the access of an instruction. -/
theorem pairFault_eq (x : Byte) : pairFault x = Access.fault s (.pair x) := by
  simp only [pairFault, Access.fault, pair_aligned_iff]

/-- R301, R302: every instruction checks its accesses, in the order its pseudocode makes them, before its writes. -/
theorem exec_eq_checked (i : Instr) (s : State) : ∃ t, exec i s = checked ((accesses s i).map (Access.fault s)) t := by
  cases i with
  | ldHLX x | xchHLX x => exact ⟨_, congrArg (fun f => checked (f :: _) _) (pairFault_eq x)⟩
  | _ => exact ⟨_, rfl⟩

/-- An instruction that faults makes an access with that fault. -/
theorem exists_access_of_exec_fault {f : Fault} (h : exec i s = .fault f) : ∃ c ∈ accesses s i, c.fault s = some f := by
  obtain ⟨t, ht⟩ := exec_eq_checked i s
  rw [ht, checked_eq_fault] at h
  exact List.mem_map.1 (mem_of_firstFault h)

/-- R53: only the operand of a pair instruction can be misaligned. -/
theorem Access.fault_eq_misalignedPair {c : Access} {x : Byte} (h : c.fault s = some (.misalignedPair x)) :
    c = .pair x ∧ x.toNat % 4 ≠ 0 := by
  cases c with
  | pair y =>
    simp only [Access.fault] at h
    split at h
    · cases h
    · cases h
      exact ⟨rfl, ‹_›⟩
  | ram ea =>
    simp only [Access.fault, State.ramFault] at h
    split at h
    · cases h
    · split at h <;> cases h
  | table a =>
    simp only [Access.fault, State.tableFault] at h
    split at h <;> cases h
  | port p =>
    simp only [Access.fault, State.portFault] at h
    split at h
    · cases h
    · split at h <;> cases h
  | stack j =>
    simp only [Access.fault, State.stackFault] at h
    split at h <;> cases h

/-- R53: the pair instructions are `LD HL, x` and `XCH HL, x`. -/
theorem pair_mem_accesses {x : Byte} (h : .pair x ∈ accesses s i) : i = .ldHLX x ∨ i = .xchHLX x := by
  cases i with
  | ldHLX y | xchHLX y =>
    cases h with
    | head => simp
    | tail _ h => nomatch h
  | _ => nomatch h

/-- R53, R302: a misaligned pair operand stops the instruction before any other check. -/
theorem exec_misaligned {x : Byte} (hx : x.toNat % 4 ≠ 0) (hi : (accesses s i).head? = some (.pair x)) :
    exec i s = .fault (.misalignedPair x) := by
  obtain ⟨t, ht⟩ := exec_eq_checked i s
  obtain ⟨r, hr⟩ := List.head?_eq_some_iff.1 hi
  rw [ht, checked_eq_fault, hr, List.map_cons, Access.fault, if_neg hx]
  rfl

/-! ### What an instruction writes -/

theorem exec_latch (h : exec i s = .next t) (hw : writesPorts i = false) : t.latch = s.latch :=
  (congrArg State.latch (exec_frame h)).trans (if_neg (ne_true_of_eq_false hw))

theorem exec_pins (h : exec i s = .next t) (hr : readsPins i = false) : t.pins = s.pins :=
  (congrArg State.pins (exec_frame h)).trans (if_neg (ne_true_of_eq_false hr))

theorem exec_events (h : exec i s = .next t) (hw : writesPorts i = false) (hr : readsPins i = false) :
    t.events = s.events :=
  (congrArg State.events (exec_frame h)).trans (if_neg (by simp [hw, hr]))

theorem exec_schedule (h : exec i s = .next t) : t.schedule = s.schedule := by rw [exec_frame h]

/-! ### Addresses as numbers -/

/-- 10_state.md R21: `@HL` is 16H + L. -/
theorem State.eaHL_addr_toNat (s : State) : s.eaHL.addr.toNat = 16 * s.h.toNat + s.l.toNat :=
  (append_toNat s.h s.l).trans (by omega)

/-- R51 (c): `y` is in page 0. -/
theorem eaY_addr_toNat (y : Nibble) : (eaY y).addr.toNat = y.toNat :=
  (append_toNat 0#4 y).trans (by simp)

/-- 10_state.md R27: TLCS-47 has bank 0 alone. -/
theorem State.dmbv_of_s47 (h : s.dev.series = .s47) : s.dmbv = 0 := by rw [State.dmbv, h]; rfl

/-- R27: TLCS-470 selects by the low bit of DMB. -/
theorem State.dmbv_toNat_of_s470 (h : s.dev.series = .s470) : s.dmbv.toNat = s.dmb.toNat % 2 := by
  rw [State.dmbv, h]
  exact (BitVec.toNat_and _ _).trans (Nat.and_one_is_mod _)

/-- R27: TLCS-470A selects by DMB. -/
theorem State.dmbv_of_s470A (h : s.dev.series = .s470A) : s.dmbv = s.dmb := by rw [State.dmbv, h]; rfl

/-- R57: the table address is `DTB · DC`, for the DTB that the series has. -/
theorem State.tableAddr_toNat (s : State) : s.tableAddr.toNat = 4096 * s.dtbv.toNat + s.dc.toNat :=
  (append_toNat s.dtbv s.dc).trans (by omega)

/-- R57, 42_input_output.md R147: the byte of `OUTB` where program memory holds 32 bytes and fits PC (log 24). -/
theorem State.outbAddr_toNat (m : Nibble) (hmin : 32 ≤ s.dev.romSize) (hmax : s.dev.romSize ≤ 2 ^ s.dev.series.pcw) :
    (s.outbAddr m).toNat = s.dev.romSize - 32 + (16 * s.cf.toNat + m.toNat) := by
  have hm := m.isLt
  have hc := Bool.toNat_le s.cf
  have hrow : (BitVec.ofBool s.cf ++ m).toNat = 16 * s.cf.toNat + m.toNat := by
    rw [append_toNat, BitVec.toNat_ofBool]
    omega
  rw [State.outbAddr, wrapPc_toNat, BitVec.toNat_ofNat, hrow]
  revert hmax
  cases s.dev.series <;> simp only [Series.pcw] <;> omega

/-! ### The statements -/

/-- Settles O22: no step changes program memory or the parameters, so no run does. -/
theorem programMemoryNeverWritten : Obligations.ProgramMemoryNeverWritten := by
  intro k s t h
  obtain ⟨hrom, hdev⟩ : t.rom = s.rom ∧ t.dev = s.dev :=
    run_relates (R := fun s t => t.rom = s.rom ∧ t.dev = s.dev) (fun _ => ⟨rfl, rfl⟩)
      (fun hu ⟨hrom, hdev⟩ => ⟨hrom.trans (step_rom hu), hdev.trans (step_dev hu)⟩) h
  exact ⟨hrom, hdev, fun a => by rw [State.romByte, hrom, State.romByte]⟩

/-- Settles O23: the access of a protected word does not pass, on any state of the run, since no step changes the parameters. -/
theorem protectedWordsNeverWritten : Obligations.ProtectedWordsNeverWritten := by
  intro k s t ea h hprot
  have hfault : s.ramFault ea ≠ none := by
    rw [Ne, State.ramFault_eq_none_iff_inSome]
    tauto
  refine run_relates (R := fun s t => s.ramFault ea ≠ none → t.readRam ea = s.readRam ea) (fun _ _ => rfl) ?_ h hfault
  intro s u t hu hut hs
  rw [hut (by rwa [State.ramFault_congr (step_dev hu)]), step_readRam_of_fault hu hs]

/-- Settles O12, from what each check answers. -/
theorem accessChecks : Obligations.AccessChecks := by
  intro s
  simp only [← portReserved_iff]
  exact ⟨fun _ => ⟨State.ramFault_eq_ramNotImplemented, State.ramFault_eq_guardedRam, State.ramFault_eq_none_iff_inSome⟩,
    fun _ => ⟨State.tableFault_eq_some, State.tableFault_eq_none⟩,
    fun _ => ⟨State.portFault_eq_reservedPort, State.portFault_eq_portAbsent, by
      rw [State.portFault_eq_none, Bool.not_eq_true]⟩,
    fun _ => ⟨State.stackFault_eq_some, State.stackFault_eq_none⟩⟩

/-- Settles O13: the fault of an instruction is one of its accesses', and only a pair access can be misaligned; interrupt entry
checks a stack location and fetch checks program memory. -/
theorem misalignedPairRule : Obligations.MisalignedPairRule := by
  refine ⟨fun x s hx => ⟨exec_misaligned hx rfl, exec_misaligned hx rfl⟩, fun i x s h => ?_, fun s j x h => ?_,
    fun s x h => ?_⟩
  · obtain ⟨c, hc, hf⟩ := exists_access_of_exec_fault h
    obtain ⟨rfl, hx⟩ := Access.fault_eq_misalignedPair hf
    exact ⟨pair_mem_accesses hc, hx⟩
  · have hf : Access.fault s (.stack s.spw) = some (.misalignedPair x) :=
      (List.mem_singleton.1 (mem_of_firstFault (checked_eq_fault.1 h))).symm
    cases (Access.fault_eq_misalignedPair hf).1
  · obtain ⟨a, -, ha⟩ := List.mem_map.1 (mem_of_firstFault h)
    unfold State.fetchFault at ha
    split at ha <;> cases ha

/-- Settles O27, from the frame of an instruction. -/
theorem memoryAndPortWriters : Obligations.MemoryAndPortWriters := fun _ _ _ h =>
  ⟨fun hw ea => by rw [State.readRam, exec_ram h hw, State.readRam],
    fun hw p => by rw [State.latchOf, exec_latch h hw, State.latchOf], exec_pins h, exec_events h, exec_schedule h⟩

/-- Settles O29: `@HL` and `x` are in the bank in force, `dmbv`. -/
theorem operandAddresses : Obligations.OperandAddresses := fun s _ y =>
  ⟨s.eaHL_addr_toNat, rfl, rfl, eaY_addr_toNat y, fun h => ⟨State.dmbv_of_s47 h, State.dmbv_of_s47 h⟩,
    fun h => ⟨State.dmbv_toNat_of_s470 h, State.dmbv_toNat_of_s470 h⟩,
    fun h => ⟨State.dmbv_of_s470A h, State.dmbv_of_s470A h⟩⟩

/-- Settles O30: the DTB of each series, and the last 32 bytes of program memory for `OUTB`. -/
theorem tableAddresses : Obligations.TableAddresses := by
  intro s m
  refine ⟨fun h => ?_, fun h => ?_, fun h => ?_, fun hmin hmax => ?_⟩
  · simp [State.tableAddr_toNat, State.dtbv, h]
  · simp [State.tableAddr_toNat, State.dtbv, h]
  · simp [State.tableAddr_toNat, State.dtbv, h]
  · have hm := m.isLt
    have hc := Bool.toNat_le s.cf
    have haddr := State.outbAddr_toNat m hmin hmax
    exact ⟨haddr, by omega⟩

end Sys2Proof.Machine
end

section
/-! SUPPORT. 30_encoding.md: the opcode map read in both directions. Each table of the decoder answers an instruction that has words
(`HasWords`), and those words are the bytes read; each instruction with words is read back from them; and the bytes after which a table
answers nothing are those of R87. -/

open Sys2Proof

namespace Sys2Proof.Machine

/-! ### Bytes and their fields -/

@[simp] theorem hiNib_append (h l : Nibble) : hiNib (h ++ l) = h := BitVec.extractLsb'_append_eq_left

@[simp] theorem loNib_append (h l : Nibble) : loNib (h ++ l) = l := BitVec.extractLsb'_append_eq_right

@[simp] theorem hiNib_ofNat (k : Nat) : hiNib (BitVec.ofNat 8 k) = BitVec.ofNat 4 (k / 16) := by
  apply BitVec.eq_of_toNat_eq
  simp only [hiNib, BitVec.extractLsb'_toNat, BitVec.toNat_ofNat, Nat.shiftRight_eq_div_pow]
  omega

@[simp] theorem loNib_ofNat (k : Nat) : loNib (BitVec.ofNat 8 k) = BitVec.ofNat 4 k :=
  BitVec.eq_of_toNat_eq (by simp [loNib])

theorem hiNib_append_loNib (b : Byte) : hiNib b ++ loNib b = b := BitVec.extractLsb'_append_extractLsb'

/-- The formats of R82: a byte is two nibbles, ... -/
theorem exists_nibbles (b : Byte) : ∃ h l : Nibble, b = h ++ l := ⟨_, _, (hiNib_append_loNib b).symm⟩

/-- ... or the fields `cc rrrrrr`, ... -/
theorem exists_fields2 (b : Byte) : ∃ (c : BitVec 2) (r : BitVec 6), b = c ++ r :=
  have hb : b.extractLsb' 6 2 ++ b.extractLsb' 0 6 = b := BitVec.extractLsb'_append_extractLsb'
  ⟨_, _, hb.symm⟩

theorem append_fields3 (b : Byte) : b.extractLsb' 6 2 ++ b.extractLsb' 4 2 ++ loNib b = b := by
  revert b
  decide

/-- ... or the fields `cc bb yyyy`. -/
theorem exists_fields3 (b : Byte) : ∃ (c k : BitVec 2) (y : Nibble), b = c ++ k ++ y := ⟨_, _, _, (append_fields3 b).symm⟩

theorem bits2_cases (c : BitVec 2) : c = 0b00#2 ∨ c = 0b01#2 ∨ c = 0b10#2 ∨ c = 0b11#2 := by
  revert c
  decide

/-- A port address is one of the low sixteen or of the high sixteen (20_memory.md R60). -/
theorem exists_portAddr (p : BitVec 5) : ∃ l : Nibble, p = 0#1 ++ l ∨ p = 1#1 ++ l := by
  revert p
  decide

/-! ### Length -/

/-- R88: the bytes 01H, 02H, 03H and 1CH that begin three bytes, by nibbles. -/
theorem isLead3_eq (s : Series) (b0 : Byte) : isLead3 s b0 =
    (s != .s47 && (hiNib b0 == 0x0 && (loNib b0 == 0x1 || loNib b0 == 0x2 || loNib b0 == 0x3) ||
      hiNib b0 == 0x1 && loNib b0 == 0xC)) := by
  unfold isLead3
  congr 1
  revert b0
  decide

theorem isLead3_iff {s : Series} {b0 : Byte} :
    isLead3 s b0 = true ↔ s ≠ .s47 ∧ (b0 = 0x01 ∨ b0 = 0x02 ∨ b0 = 0x03 ∨ b0 = 0x1C) := by
  simp [isLead3, or_assoc]

/-- R81: the length, by the nibbles of the first byte. -/
theorem instrLength_eq (s : Series) (b0 : Byte) : instrLength s b0 =
    if isLead3 s b0 then 3
    else if hiNib b0 == 0x2 && !(loNib b0 == 0xA || loNib b0 == 0xB) ||
      hiNib b0 == 0x3 && (loNib b0 == 0x6 || loNib b0 ≥ 0x8) || hiNib b0 == 0x6 then 2
    else 1 := by
  unfold instrLength
  congr 3
  revert b0
  decide

theorem instrLength_pos (s : Series) (b0 : Byte) : 0 < instrLength s b0 := by
  unfold instrLength
  split_ifs <;> decide

theorem instrLength_le (s : Series) (b0 : Byte) : instrLength s b0 ≤ 3 := by
  unfold instrLength
  split_ifs <;> decide

section Encoding

variable {d : Device} {i : Instr} {b0 b1 b2 : Byte} {n : Nibble} {rest bs : List Byte}

/-! ### Which instructions have words -/

theorem wellFormed_iff : i.wellFormed d = true ↔
    i.onSeries d.series = true ∧ i.isSpelling = false ∧ i.parameterSet d = true ∧ i.takenByNamed d = false := by
  simp [Instr.wellFormed, and_assoc]

/-- The instruction has words of its own on the device, and they are `bs`. -/
def HasWords (d : Device) (i : Instr) (bs : List Byte) : Prop := i.wellFormed d = true ∧ encode d i = some bs

/-- The conditions of `wellFormed`, each of which most rows meet on every device by evaluation. -/
theorem HasWords.intro (henc : encode d i = some bs) (hseries : i.onSeries d.series = true := by rfl)
    (hparam : i.parameterSet d = true := by rfl) (htaken : i.takenByNamed d = false := by exact Bool.and_false _)
    (hspelling : i.isSpelling = false := by rfl) : HasWords d i bs :=
  ⟨wellFormed_iff.2 ⟨hseries, hspelling, hparam, htaken⟩, henc⟩

/-- R89 (b), (c): what the named rows of TLCS-470A leave to a generic row of group 3AH. -/
theorem takenByNamed_of_ioByte (h : i.ioByte = some b1) : i.takenByNamed d = false ↔
    ¬ (d.series == .s470A && b1 == 0x04) = true ∧ ¬ (d.series == .s470A && b1 == d.movASpw13Enc) = true := by
  cases i with
  | inPA | inPAHigh | inPAtHL | inPAtHLHigh | outAP | outAtHLP =>
    cases h
    simp [Instr.takenByNamed, Instr.ioByte, forall_and]
  | _ => cases h

/-- R85: the words of a generic row of group 3AH. -/
theorem HasWords.of_ioByte (h : i.ioByte = some b1) (hseries : i.onSeries d.series = true)
    (htaken : i.takenByNamed d = false) : HasWords d i [0x3A, b1] := by
  cases i with
  | inPA | inPAHigh | inPAtHL | inPAtHLHigh | outAP | outAtHLP =>
    cases h
    exact .intro rfl hseries rfl htaken
  | _ => cases h

/-- R91: the words are as many as the row says. -/
theorem encode_length (h : encode d i = some bs) : bs.length = i.length := by
  cases i with
  | ldDMBK k => exact Laws.EncodeLength.ldDMBK k d bs h
  | clrSTK13 => exact Laws.EncodeLength.clrSTK13 d bs h
  | setSTK13 => exact Laws.EncodeLength.setSTK13 d bs h
  | _ =>
    cases h
    rfl

/-- R291: the parameter byte of `MOV A, SPW13` is not that of `MOV STK13, A`. -/
theorem movASpw13Enc_ne (hd : d.wf = true) : d.movASpw13Enc ≠ 0x04#8 := by
  simp only [Device.wf, Bool.and_eq_true, bne_iff_ne] at hd
  exact hd.2

/-- R291: the parameter byte of `SET STK13` is none of the printed rows' after 03H 3AH. -/
theorem stk13Op3_ne (hd : d.wf = true) {t : Byte} (ht : d.stk13Op3 = some t) :
    t ≠ 0xE9#8 ∧ t ≠ 0xA9#8 ∧ t ≠ 0x29#8 ∧ t ≠ 0x69#8 := by
  simp only [Device.wf, ht, Bool.and_eq_true, bne_iff_ne, ne_eq, Option.some.injEq] at hd
  tauto

/-! ### First bytes 00H to 2FH -/

theorem decodeRow0_ne_none : decodeRow0 n ≠ none := by
  revert n
  decide

theorem decodeRow1_eq_none : decodeRow1 n = none ↔ n = 0xC#4 := by
  revert n
  decide

theorem decodeRow2_ne_none : decodeRow2 n b1 ≠ none := by
  unfold decodeRow2
  split <;> exact Option.some_ne_none _

/-- First bytes 20H to 27H. -/
theorem decodeRow2_call (h : n < 8) (b1 : Byte) : decodeRow2 n b1 = some (.call (n.extractLsb' 0 3 ++ b1)) := by
  unfold decodeRow2
  split
  case h_9 => rfl
  all_goals exact absurd h (by decide)

/-- R86: the first byte of `CALL` has the high bits of the address in its low nibble. -/
theorem call_firstByte (h : n < 8) : 0b00100#5 ++ n.extractLsb' 0 3 = 0x2#4 ++ n := by
  revert n
  decide

theorem hasWords_of_row0 (hlead : isLead3 d.series (0x0#4 ++ n) = false) (h : decodeRow0 n = some i) :
    HasWords d i [0x0#4 ++ n] := by
  unfold decodeRow0 at h
  split at h
  all_goals cases h
  case h_2 | h_3 | h_4 => -- 01H to 03H, the general flag
    have hs : d.series = .s47 := by simpa [isLead3] using hlead
    exact .intro rfl (beq_iff_eq.2 hs)
  case h_16 =>
    clear hlead
    obtain rfl : n = 0xF#4 := by decide +revert
    exact .intro rfl
  all_goals exact .intro rfl

theorem hasWords_of_row1 (h : decodeRow1 n = some i) : HasWords d i [0x1#4 ++ n] := by
  unfold decodeRow1 at h
  split at h
  all_goals cases h
  case h_16 =>
    obtain rfl : n = 0xF#4 := by decide +revert
    exact .intro rfl
  all_goals exact .intro rfl

theorem hasWords_of_row2 (h : decodeRow2 n b1 = some i) :
    HasWords d i ([0x2#4 ++ n, b1, b2].take (instrLength d.series (0x2#4 ++ n))) := by
  have hb1 := hiNib_append_loNib b1
  unfold decodeRow2 at h
  split at h
  all_goals cases h
  case h_9 => -- 20H to 27H, `CALL`
    have hn : n < 8 ∧ n ≠ 0xA#4 ∧ n ≠ 0xB#4 := by
      clear hb1
      decide +revert
    have hhi : (n.extractLsb' 0 3 ++ b1).extractLsb' 8 3 = n.extractLsb' 0 3 := BitVec.extractLsb'_append_eq_left
    have hlo : (n.extractLsb' 0 3 ++ b1).extractLsb' 0 8 = b1 := BitVec.extractLsb'_append_eq_right
    exact .intro (by simpa [encode, instrLength_eq, isLead3_eq, hn, hhi, hlo] using call_firstByte hn.1)
  all_goals exact .intro (by simp [encode, instrLength_eq, isLead3_eq, hb1])

/-! ### First bytes 30H to 3FH -/

/-- R86: the rows of group 36H. -/
theorem decodeGroup36_append (r : BitVec 6) :
    decodeGroup36 (0b00#2 ++ r) = none ∧ decodeGroup36 (0b01#2 ++ r) = some (.eiclr r) ∧
    decodeGroup36 (0b10#2 ++ r) = some (.diclr r) ∧ decodeGroup36 (0b11#2 ++ r) = some (.clrIL r) := by
  revert r
  decide

/-- R86: the rows of group 39H. -/
theorem decodeGroup39_append (k : BitVec 2) (y : Nibble) :
    decodeGroup39 (0b00#2 ++ k ++ y) = some (.setYB y k) ∧ decodeGroup39 (0b01#2 ++ k ++ y) = some (.clrYB y k) ∧
    decodeGroup39 (0b10#2 ++ k ++ y) = some (.testYB y k) ∧ decodeGroup39 (0b11#2 ++ k ++ y) = some (.testpYB y k) := by
  revert k y
  decide

/-- R89 (a): the rows of group 3BH, but for the bytes that DMB takes. -/
theorem decodeGroup3B_append {s : Series} {p : Nibble} {k : BitVec 2} (h : (s != .s47 && p == 9 && k == 3) = false) :
    decodeGroup3B s (0b00#2 ++ k ++ p) = some (.setPB p k) ∧ decodeGroup3B s (0b01#2 ++ k ++ p) = some (.clrPB p k) ∧
    decodeGroup3B s (0b10#2 ++ k ++ p) = some (.testPB p k) ∧ decodeGroup3B s (0b11#2 ++ k ++ p) = some (.testpPB p k) := by
  cases s <;> revert p k <;> decide

/-- R86: the output rows have bit 4 of the port address in bit 5 of the second byte. -/
theorem ioByte_out (p : Nibble) :
    (Instr.outAP (0#1 ++ p)).ioByte = some (0x8#4 ++ p) ∧ (Instr.outAP (1#1 ++ p)).ioByte = some (0xA#4 ++ p) ∧
    (Instr.outAtHLP (0#1 ++ p)).ioByte = some (0xC#4 ++ p) ∧ (Instr.outAtHLP (1#1 ++ p)).ioByte = some (0xE#4 ++ p) := by
  revert p
  decide

/-- R85: the generic rows of group 3AH, where no named row takes their bytes. -/
theorem decodeGroup3A_of_ioByte (h : i.ioByte = some b1) (hseries : i.onSeries d.series = true)
    (htaken : i.takenByNamed d = false) : decodeGroup3A d b1 = some i := by
  obtain ⟨hmov, hspw13⟩ := (takenByNamed_of_ioByte h).1 htaken
  rw [decodeGroup3A, if_neg hmov, if_neg hspw13]
  cases i with
  | inPA | inPAtHL =>
    cases h
    simp
  | inPAHigh | inPAtHLHigh =>
    cases h
    have hs : d.series ≠ .s47 := bne_iff_ne.1 hseries
    simp [hs]
  | outAP p | outAtHLP p =>
    obtain ⟨p, rfl | rfl⟩ := exists_portAddr p
    all_goals
      simp only [ioByte_out, Option.some.injEq] at h
      subst h
      simp
  | _ => cases h

theorem hasWords_of_group36 (h : decodeGroup36 b1 = some i) : HasWords d i [0x36, b1] := by
  obtain ⟨c, r, rfl⟩ := exists_fields2 b1
  rcases bits2_cases c with rfl | rfl | rfl | rfl
  all_goals
    simp only [decodeGroup36_append] at h
    cases h
  all_goals exact .intro rfl

theorem hasWords_of_group38 (h : decodeGroup38 b1 = some i) : HasWords d i [0x38, b1] := by
  obtain ⟨o, k, rfl⟩ := exists_nibbles b1
  rw [decodeGroup38, hiNib_append, loNib_append] at h
  split at h
  all_goals cases h
  all_goals exact .intro rfl

theorem hasWords_of_group39 (h : decodeGroup39 b1 = some i) : HasWords d i [0x39, b1] := by
  obtain ⟨c, k, y, rfl⟩ := exists_fields3 b1
  rcases bits2_cases c with rfl | rfl | rfl | rfl
  all_goals
    simp only [decodeGroup39_append] at h
    cases h
    exact .intro rfl

theorem hasWords_of_group3A (h : decodeGroup3A d b1 = some i) : HasWords d i [0x3A, b1] := by
  unfold decodeGroup3A at h
  split at h
  case isTrue hnamed =>
    obtain ⟨hs, rfl⟩ : d.series = .s470A ∧ b1 = 0x04 := by simpa using hnamed
    cases h
    exact .intro rfl (beq_iff_eq.2 hs)
  split at h
  case isTrue hnamed =>
    obtain ⟨hs, rfl⟩ : d.series = .s470A ∧ b1 = d.movASpw13Enc := by simpa using hnamed
    cases h
    exact .intro rfl (beq_iff_eq.2 hs)
  obtain ⟨hio, hseries⟩ : i.ioByte = some b1 ∧ i.onSeries d.series = true := by
    obtain ⟨o, p, rfl⟩ := exists_nibbles b1
    obtain ⟨h8, hA, hC, hE⟩ := ioByte_out p
    rw [hiNib_append, loNib_append] at h
    split at h
    case h_1 | h_3 => -- input ports 00H to 0FH
      cases h
      exact ⟨rfl, rfl⟩
    case h_2 | h_4 => -- input ports 10H to 1FH
      split at h
      case isTrue => cases h
      case isFalse hs =>
        cases h
        exact ⟨rfl, bne_iff_ne.2 (by simpa using hs)⟩
    case h_9 => cases h
    all_goals
      cases h
      exact ⟨by assumption, rfl⟩
  exact .of_ioByte hio hseries ((takenByNamed_of_ioByte hio).2 ⟨‹_›, ‹_›⟩)

theorem hasWords_of_group3B (h : decodeGroup3B d.series b1 = some i) : HasWords d i [0x3B, b1] := by
  obtain ⟨c, k, p, rfl⟩ := exists_fields3 b1
  cases hdmb : d.series != .s47 && p == 9 && k == 3 with
  | false =>
    rcases bits2_cases c with rfl | rfl | rfl | rfl
    all_goals
      simp only [decodeGroup3B_append hdmb] at h
      cases h
      exact .intro rfl rfl rfl hdmb
  | true =>
    obtain ⟨⟨hs47, rfl⟩, rfl⟩ : (d.series ≠ .s47 ∧ p = 9) ∧ k = 3 := by simpa using hdmb
    cases hs : d.series with
    | s47 => exact absurd hs hs47
    | s470 | s470A =>
      rw [hs] at h
      rcases bits2_cases c with rfl | rfl | rfl | rfl
      all_goals
        cases h
        exact .intro rfl (beq_iff_eq.2 hs)

theorem hasWords_of_row3 (h : decodeRow3 d n b1 = some i) :
    HasWords d i ([0x3#4 ++ n, b1, b2].take (instrLength d.series (0x3#4 ++ n))) := by
  unfold decodeRow3 at h
  split at h
  case h_7 => simpa [instrLength_eq, isLead3_eq] using hasWords_of_group36 h
  case h_9 => simpa [instrLength_eq, isLead3_eq] using hasWords_of_group38 h
  case h_10 => simpa [instrLength_eq, isLead3_eq] using hasWords_of_group39 h
  case h_11 => simpa [instrLength_eq, isLead3_eq] using hasWords_of_group3A h
  case h_12 => simpa [instrLength_eq, isLead3_eq] using hasWords_of_group3B h
  case h_16 =>
    cases h
    obtain rfl : n = 0xF#4 := by decide +revert
    exact .intro (by simp [encode, instrLength_eq, isLead3_eq])
  all_goals
    cases h
    exact .intro (by simp [encode, instrLength_eq, isLead3_eq])

/-! ### First bytes 50H to 5FH and 80H to BFH -/

/-- R82 format F1B: the rows 50H to 5FH. -/
theorem decodeRow5_append (k : BitVec 2) :
    decodeRow5 (0b00#2 ++ k) = some (.setAtHLB k) ∧ decodeRow5 (0b01#2 ++ k) = some (.clrAtHLB k) ∧
    decodeRow5 (0b10#2 ++ k) = some (.testAtHLB k) ∧ decodeRow5 (0b11#2 ++ k) = some (.testAB k) := by
  revert k
  decide

theorem row5_firstByte (c k : BitVec 2) : (0x5#4 ++ c ++ k : Byte) = 0x5#4 ++ (c ++ k) := by
  revert c k
  decide

theorem hasWords_of_row5 (h : decodeRow5 n = some i) : HasWords d i [0x5#4 ++ n] := by
  have hn : n.extractLsb' 2 2 ++ n.extractLsb' 0 2 = n := BitVec.extractLsb'_append_extractLsb'
  obtain ⟨c, k, rfl⟩ : ∃ c k : BitVec 2, n = c ++ k := ⟨_, _, hn.symm⟩
  rcases bits2_cases c with rfl | rfl | rfl | rfl
  all_goals
    simp only [decodeRow5_append] at h
    cases h
    exact .intro (by rw [encode, row5_firstByte])

/-- R86: the displacement of `BSS` takes two bits of the high nibble, ... -/
theorem hiNib_bss (t : BitVec 6) : hiNib (0b10#2 ++ t) = 0x8#4 ∨ hiNib (0b10#2 ++ t) = 0x9#4 ∨
    hiNib (0b10#2 ++ t) = 0xA#4 ∨ hiNib (0b10#2 ++ t) = 0xB#4 := by
  revert t
  decide

/-- ... which makes four rows of it. -/
theorem bss_firstByte {o : Nibble} (n : Nibble) (h : o = 0x8#4 ∨ o = 0x9#4 ∨ o = 0xA#4 ∨ o = 0xB#4) :
    0b10#2 ++ (o ++ n).extractLsb' 0 6 = o ++ n := by
  revert o n
  decide

/-! ### The first bytes of three (R88) -/

theorem decodeBsl_isSome (hb0 : b0 = 0x01 ∨ b0 = 0x02 ∨ b0 = 0x03 ∨ b0 = 0x1C) (e : BitVec 12) :
    (decodeBsl b0 e).isSome = true := by
  rcases hb0 with rfl | rfl | rfl | rfl
  all_goals rfl

theorem hasWords_of_bsl (hs : d.series ≠ .s47) (hrow : hiNib b1 = 0x6) (h : decodeBsl b0 (loNib b1 ++ b2) = some i) :
    HasWords d i [b0, b1, b2] := by
  have hb1 := hiNib_append_loNib b1
  rw [hrow] at hb1
  have hhi : (loNib b1 ++ b2).extractLsb' 8 4 = loNib b1 := BitVec.extractLsb'_append_eq_left
  have hlo : (loNib b1 ++ b2).extractLsb' 0 8 = b2 := BitVec.extractLsb'_append_eq_right
  unfold decodeBsl at h
  split at h
  all_goals cases h
  all_goals
    exact .intro (by rw [encode, hhi, hlo]; exact congrArg (fun b => some [_, b, b2]) hb1) (bne_iff_ne.2 hs)

theorem hasWords_of_lead03 (hs : d.series = .s470A) (h : decodeLead03 d b1 b2 = some i) :
    HasWords d i [0x03, b1, b2] := by
  unfold decodeLead03 at h
  split at h
  case h_9 => -- 03 3A, `SET STK13`
    split at h
    case isTrue ht =>
      cases h
      have ht := eq_of_beq ht
      exact .intro (by rw [encode, ht]; rfl) (beq_iff_eq.2 hs) (by rw [Instr.parameterSet, ht]; rfl)
    case isFalse => cases h
  case h_10 => -- 03 2C, `LD DMB, #k`
    split at h
    case isTrue hbody =>
      obtain ⟨⟨henc, hhi⟩, hlo⟩ : (d.ldDmbImmEnc = .suggested ∧ b2.extractLsb' 6 2 = 0) ∧ loNib b2 = 9 := by
        simpa using hbody
      have hb2 := append_fields3 b2
      rw [hhi, hlo] at hb2
      cases h
      exact .intro (by simp only [encode, henc]; exact congrArg (fun b => some [_, _, b]) hb2) (beq_iff_eq.2 hs)
        (beq_iff_eq.2 henc)
    case isFalse => cases h
  case h_11 => cases h
  all_goals
    cases h
    exact .intro rfl (beq_iff_eq.2 hs)

theorem hasWords_of_lead3 (hs : d.series ≠ .s47) (h : decodeLead3 d b0 b1 b2 = some i) :
    HasWords d i [b0, b1, b2] := by
  unfold decodeLead3 at h
  split at h
  case isTrue hrow => exact hasWords_of_bsl hs (eq_of_beq hrow) h
  split at h
  case isTrue h03 =>
    obtain ⟨hs, rfl⟩ : d.series = .s470A ∧ b0 = 0x03 := by simpa using h03
    exact hasWords_of_lead03 hs h
  split at h
  case isTrue h02 =>
    obtain ⟨⟨⟨hs, rfl⟩, rfl⟩, ht⟩ : ((d.series = .s470A ∧ b0 = 0x02) ∧ b1 = 0x3A) ∧ d.stk13Op3 = some b2 := by
      simpa using h02
    cases h
    exact .intro (by rw [encode, ht]; rfl) (beq_iff_eq.2 hs) (by rw [Instr.parameterSet, ht]; rfl)
  case isFalse => cases h

/-! ### The opcode map and the decoder -/

theorem decodeMap_row3 : decodeMap d (0x3#4 ++ n) b1 b2 = decodeRow3 d n b1 := by
  simp [decodeMap, isLead3_eq]

/-- What the opcode map answers has words, and they are the bytes that count. -/
theorem hasWords_of_decodeMap (h : decodeMap d b0 b1 b2 = some i) :
    HasWords d i ([b0, b1, b2].take (instrLength d.series b0)) := by
  unfold decodeMap at h
  split at h
  case isTrue hlead =>
    rw [instrLength, if_pos hlead]
    exact hasWords_of_lead3 (isLead3_iff.1 hlead).1 h
  case isFalse hlead =>
    obtain ⟨o, n, rfl⟩ := exists_nibbles b0
    rw [hiNib_append, loNib_append] at h
    have hlen := instrLength_eq d.series (o ++ n)
    rw [if_neg hlead, hiNib_append, loNib_append] at hlen
    split at h
    case h_1 => exact hlen ▸ hasWords_of_row0 (Bool.eq_false_iff.2 hlead) h
    case h_2 => exact hlen ▸ hasWords_of_row1 h
    case h_3 => exact hasWords_of_row2 h
    case h_4 => exact hasWords_of_row3 h
    case h_6 => exact hlen ▸ hasWords_of_row5 h
    case h_7 => -- `BS`
      cases h
      have hhi : (n ++ b1).extractLsb' 8 4 = n := BitVec.extractLsb'_append_eq_left
      have hlo : (n ++ b1).extractLsb' 0 8 = b1 := BitVec.extractLsb'_append_eq_right
      exact hlen ▸ .intro (by rw [encode, hhi, hlo]; rfl)
    case h_13 => -- `BSS`
      cases h
      have ho : o = 0x8#4 ∨ o = 0x9#4 ∨ o = 0xA#4 ∨ o = 0xB#4 := by
        clear hlead hlen
        decide +revert
      have hb0 := bss_firstByte n ho
      rcases ho with rfl | rfl | rfl | rfl
      all_goals exact hlen ▸ .intro (by rw [encode, hb0]; rfl)
    all_goals
      cases h
      exact hlen ▸ .intro rfl

/-- The bytes that count and the bytes after them, where there are enough. -/
theorem take_append_drop_tail {m : Nat} {tail : List Byte} (hpos : 0 < m) (hle : m ≤ 3) (hlong : ¬ tail.length + 1 < m) :
    [b0, tail.getD 0 0, tail.getD 1 0].take m ++ tail.drop (m - 1) = b0 :: tail := by
  match tail with
  | [] =>
    obtain rfl : m = 1 := by
      simp only [List.length_nil] at hlong
      omega
    rfl
  | [_] =>
    obtain rfl | rfl : m = 1 ∨ m = 2 := by
      simp only [List.length_singleton] at hlong
      omega
    all_goals rfl
  | _ :: _ :: _ =>
    obtain rfl | rfl | rfl : m = 1 ∨ m = 2 ∨ m = 3 := by omega
    all_goals rfl

/-- What the decoder answers has words, and the bytes are those words and the rest. -/
theorem exists_hasWords_of_decode {bytes : List Byte} (h : decode d bytes = .instr i rest) :
    ∃ bs, HasWords d i bs ∧ bytes = bs ++ rest := by
  cases bytes with
  | nil => cases h
  | cons b0 tail =>
    simp only [decode] at h
    split at h
    case isTrue => cases h
    case isFalse hlong =>
      split at h
      case h_1 j hmap =>
        cases h
        exact ⟨_, hasWords_of_decodeMap hmap, (take_append_drop_tail (instrLength_pos _ _) (instrLength_le _ _) hlong).symm⟩
      case h_2 => cases h

/-- The decoder reads as many bytes as the first one says. -/
theorem decode_cons_length {tail : List Byte} (h : decode d (b0 :: tail) = .instr i rest) :
    instrLength d.series b0 + rest.length = tail.length + 1 := by
  have hpos := instrLength_pos d.series b0
  simp only [decode] at h
  split at h
  case isTrue => cases h
  case isFalse hlong =>
    split at h
    case h_1 =>
      cases h
      rw [List.length_drop]
      omega
    case h_2 => cases h

/-! ### Reading words back -/

theorem decode_one (hlen : instrLength d.series b0 = 1) (hmap : ∀ b1 b2, decodeMap d b0 b1 b2 = some i) :
    decode d ([b0] ++ rest) = .instr i rest := by
  simp [decode, hlen, hmap]

theorem decode_two (hlen : instrLength d.series b0 = 2) (hmap : ∀ b2, decodeMap d b0 b1 b2 = some i) :
    decode d ([b0, b1] ++ rest) = .instr i rest := by
  simp [decode, hlen, hmap]

theorem decode_lead3 (hs : d.series ≠ .s47) (hb0 : b0 = 0x01 ∨ b0 = 0x02 ∨ b0 = 0x03 ∨ b0 = 0x1C)
    (h : decodeLead3 d b0 b1 b2 = some i) : decode d ([b0, b1, b2] ++ rest) = .instr i rest := by
  have hlead : isLead3 d.series b0 = true := isLead3_iff.2 ⟨hs, hb0⟩
  simp [decode, instrLength, decodeMap, hlead, h]

theorem decode_row3 (hn : n = 0x6#4 ∨ 0x8#4 ≤ n) (h : decodeRow3 d n b1 = some i) :
    decode d ([0x3#4 ++ n, b1] ++ rest) = .instr i rest := by
  have hlen : instrLength d.series (0x3#4 ++ n) = 2 := by simpa [instrLength_eq, isLead3_eq, imp_iff_not_or] using hn
  exact decode_two hlen fun _ => decodeMap_row3.trans h

theorem decode_group36 (h : decodeGroup36 b1 = some i) : decode d ([0x36, b1] ++ rest) = .instr i rest :=
  decode_row3 (n := 0x6#4) (by decide) h

theorem decode_group38 (h : decodeGroup38 b1 = some i) : decode d ([0x38, b1] ++ rest) = .instr i rest :=
  decode_row3 (n := 0x8#4) (by decide) h

theorem decode_group39 (h : decodeGroup39 b1 = some i) : decode d ([0x39, b1] ++ rest) = .instr i rest :=
  decode_row3 (n := 0x9#4) (by decide) h

theorem decode_group3A (h : decodeGroup3A d b1 = some i) : decode d ([0x3A, b1] ++ rest) = .instr i rest :=
  decode_row3 (n := 0xA#4) (by decide) h

theorem decode_group3B (h : decodeGroup3B d.series b1 = some i) : decode d ([0x3B, b1] ++ rest) = .instr i rest :=
  decode_row3 (n := 0xB#4) (by decide) h

theorem decode_row5 {c k : BitVec 2} (h : decodeRow5 (c ++ k) = some i) :
    decode d ([0x5#4 ++ c ++ k] ++ rest) = .instr i rest := by
  rw [row5_firstByte]
  exact decode_one (by simp [instrLength_eq, isLead3_eq]) fun _ _ => by simpa [decodeMap, isLead3_eq] using h

theorem decode_bss (t : BitVec 6) : decode d ([0b10#2 ++ t] ++ rest) = .instr (.bss t) rest := by
  have ht : (0b10#2 ++ t).extractLsb' 0 6 = t := BitVec.extractLsb'_append_eq_right
  rcases hiNib_bss t with h | h | h | h
  all_goals exact decode_one (by simp [instrLength_eq, isLead3_eq, h]) fun _ _ => by simp [decodeMap, isLead3_eq, h, ht]

theorem decode_call (a : BitVec 11) :
    decode d ([0b00100#5 ++ a.extractLsb' 8 3, a.extractLsb' 0 8] ++ rest) = .instr (.call a) rest := by
  have ha : a.extractLsb' 8 3 ++ a.extractLsb' 0 8 = a := BitVec.extractLsb'_append_extractLsb'
  have hnib (h : BitVec 3) : ∃ n : Nibble, n < 8 ∧ n ≠ 0xA#4 ∧ n ≠ 0xB#4 ∧ n.extractLsb' 0 3 = h := by
    revert h
    decide
  obtain ⟨n, hn, hA, hB, h8⟩ := hnib (a.extractLsb' 8 3)
  rw [← h8, call_firstByte hn]
  exact decode_two (by simp [instrLength_eq, isLead3_eq, hA, hB]) fun _ => by
    simp [decodeMap, isLead3_eq, decodeRow2_call hn, h8, ha]

theorem decode_ldDMBK (hs : d.series = .s470A) (henc : d.ldDmbImmEnc = .suggested) (k : BitVec 2) :
    decode d ([0x03, 0x2C, 0b00#2 ++ k ++ 0x9#4] ++ rest) = .instr (.ldDMBK k) rest := by
  have hb2 (k : BitVec 2) : (0b00#2 ++ k ++ 0x9#4).extractLsb' 6 2 = 0#2 ∧ loNib (0b00#2 ++ k ++ 0x9#4) = 9#4 ∧
      (0b00#2 ++ k ++ 0x9#4).extractLsb' 4 2 = k := by
    revert k
    decide
  exact decode_lead3 (by simp [hs]) (by decide) (by simp [decodeLead3, hs, decodeLead03, henc, hb2])

/-- Every instruction with words is read back from them: the cases are the branches of the opcode map. -/
theorem decode_encode (hd : d.wf = true) (hi : i.wellFormed d = true) :
    ∃ bs, encode d i = some bs ∧ ∀ rest, decode d (bs ++ rest) = .instr i rest := by
  obtain ⟨hseries, hspelling, hparam, htaken⟩ := wellFormed_iff.1 hi
  cases i with
  | ldHLJK | callss | ei | di => cases hspelling
  | ldAAtHL | ldlAAtDC | ldhAAtDCInc | stAAtHL | stAAtHLInc | stAAtHLDec | movHA | movLA | xchAAtHL | xchAH | xchAL
  | outbAtHL | cmprAAtHL | addAAtHL | addcAAtHL | subrcAAtHL | incAtHL | decAtHL | incA | decA | incL | decL | andAAtHL
  | orAAtHL | xorAAtHL | rolcA | rorcA | clrAtL | setAtL | testAtL | testCF | testpCF | testpZF | ret | xchAEIR | reti
  | nop | stKAtHLInc | ldAK | ldHK | ldLK | cmprAK | calls =>
    exact ⟨_, rfl, fun _ => decode_one (by simp [instrLength_eq, isLead3_eq]) fun _ _ => by
      simp [decodeMap, isLead3_eq, decodeRow0, decodeRow1, decodeRow2, decodeRow3]⟩
  | clrGF | setGF | testpGF =>
    have hs : d.series = .s47 := eq_of_beq hseries
    exact ⟨_, rfl, fun _ => decode_one (by simp [instrLength_eq, isLead3_eq, hs]) fun _ _ => by
      simp [decodeMap, isLead3_eq, hs, decodeRow0]⟩
  | setAtHLB | clrAtHLB | testAtHLB | testAB =>
    exact ⟨_, rfl, fun _ => decode_row5 (by simp only [decodeRow5_append])⟩
  | bss t => exact ⟨_, rfl, fun _ => decode_bss t⟩
  | ldAX | ldHLX | stAX | xchAX | xchHLX | cmprAX | stKY | outKP | cmprYK | addYK =>
    exact ⟨_, rfl, fun _ => decode_two (by simp [instrLength_eq, isLead3_eq]) fun _ => by
      simp [decodeMap, isLead3_eq, decodeRow2, decodeRow3]⟩
  | call a => exact ⟨_, rfl, fun _ => decode_call a⟩
  | bs e =>
    have he : e.extractLsb' 8 4 ++ e.extractLsb' 0 8 = e := BitVec.extractLsb'_append_extractLsb'
    exact ⟨_, rfl, fun _ => decode_two (by simp [instrLength_eq, isLead3_eq]) fun _ => by
      simp [decodeMap, isLead3_eq, he]⟩
  | eiclr | diclr | clrIL => exact ⟨_, rfl, fun _ => decode_group36 (by simp only [decodeGroup36_append])⟩
  | addAtHLK | subrAtHLK | addAK | addHK | addLK | subrAK | andAtHLK | andAK | orAtHLK | orAK | cmprHK | cmprLK =>
    exact ⟨_, rfl, fun _ => decode_group38 (by simp [decodeGroup38])⟩
  | setYB | clrYB | testYB | testpYB => exact ⟨_, rfl, fun _ => decode_group39 (by simp only [decodeGroup39_append])⟩
  | inPA | inPAHigh | inPAtHL | inPAtHLHigh | outAP | outAtHLP =>
    exact ⟨_, rfl, fun _ => decode_group3A (decodeGroup3A_of_ioByte rfl hseries htaken)⟩
  | movASPW13 =>
    have hs : d.series = .s470A := eq_of_beq hseries
    exact ⟨_, rfl, fun _ => decode_group3A (by simp [decodeGroup3A, hs, movASpw13Enc_ne hd])⟩
  | movSTK13A =>
    have hs : d.series = .s470A := eq_of_beq hseries
    exact ⟨_, rfl, fun _ => decode_group3A (by simp [decodeGroup3A, hs])⟩
  | setPB | clrPB | testPB | testpPB =>
    exact ⟨_, rfl, fun _ => decode_group3B (by simp only [decodeGroup3B_append htaken])⟩
  | clrDMB | setDMB | testDMB | testpDMB | clrDMB0 | setDMB0 | testDMB0 | testpDMB0 =>
    have hs := eq_of_beq hseries
    exact ⟨_, rfl, fun _ => decode_group3B (by rw [hs]; rfl)⟩
  | bslBank0 e | bslBank1 e | bslBank2 e | bslBank3 e =>
    have he : e.extractLsb' 8 4 ++ e.extractLsb' 0 8 = e := BitVec.extractLsb'_append_extractLsb'
    exact ⟨_, rfl, fun _ => decode_lead3 (bne_iff_ne.1 hseries) (by decide) (by simp [decodeLead3, decodeBsl, he])⟩
  | clrDMB1 | setDMB1 | testDMB1 | testpDMB1 | ldDMBAtHL | movADMB | movDMBA | stDMBAtHL =>
    have hs : d.series = .s470A := eq_of_beq hseries
    exact ⟨_, rfl, fun _ => decode_lead3 (by simp [hs]) (by decide) (by simp [decodeLead3, hs, decodeLead03])⟩
  | ldDMBK k =>
    have henc : d.ldDmbImmEnc = .suggested := eq_of_beq hparam
    exact ⟨_, by simp only [encode, henc], fun _ => decode_ldDMBK (eq_of_beq hseries) henc k⟩
  | clrSTK13 =>
    have hs : d.series = .s470A := eq_of_beq hseries
    obtain ⟨t, ht⟩ := Option.isSome_iff_exists.1 hparam
    exact ⟨[0x02, 0x3A, t], by rw [encode, ht]; rfl, fun _ =>
      decode_lead3 (by simp [hs]) (by decide) (by simp [decodeLead3, hs, ht])⟩
  | setSTK13 =>
    have hs : d.series = .s470A := eq_of_beq hseries
    obtain ⟨t, ht⟩ := Option.isSome_iff_exists.1 hparam
    exact ⟨[0x03, 0x3A, t], by rw [encode, ht]; rfl, fun _ =>
      decode_lead3 (by simp [hs]) (by decide) (by simp [decodeLead3, hs, decodeLead03, ht, stk13Op3_ne hd ht])⟩

/-! ### Unassigned bytes -/

/-- R87 (c). -/
theorem decodeGroup36_eq_none : decodeGroup36 b1 = none ↔ b1.toNat ≤ 0x3F := by
  revert b1
  decide

/-- R87 (d). -/
theorem decodeGroup38_eq_none : decodeGroup38 b1 = none ↔ (0xA0 ≤ b1.toNat ∧ b1.toNat ≤ 0xBF) ∨ 0xE0 ≤ b1.toNat := by
  revert b1
  decide

theorem decodeGroup39_ne_none : decodeGroup39 b1 ≠ none := by
  revert b1
  decide

theorem decodeGroup3B_ne_none {s : Series} : decodeGroup3B s b1 ≠ none := by
  cases s <;> revert b1 <;> decide

theorem decodeRow5_ne_none : decodeRow5 n ≠ none := by
  revert n
  decide

/-- R87 (e), (f) by the high nibble of the second byte. -/
theorem ioBits_iff_hiNib (b : Byte) : b.getLsbD 4 = (hiNib b).getLsbD 0 ∧
    (b.toNat ≤ 0x0F ∨ (0x40 ≤ b.toNat ∧ b.toNat ≤ 0x4F) ↔ hiNib b = 0x0#4 ∨ hiNib b = 0x4#4) := by
  revert b
  decide

/-- R87 (e), (f) with R89 (b), (c). -/
theorem decodeGroup3A_eq_none : decodeGroup3A d b1 = none ↔
    (b1.getLsbD 4 = true ∧ ¬ (d.series = .s470A ∧ b1 = d.movASpw13Enc)) ∨
      (d.series = .s47 ∧ (b1.toNat ≤ 0x0F ∨ (0x40 ≤ b1.toNat ∧ b1.toNat ≤ 0x4F))) := by
  obtain ⟨hbit, hnib⟩ := ioBits_iff_hiNib b1
  rw [hnib, hbit]
  unfold decodeGroup3A
  split
  case isTrue hnamed =>
    obtain ⟨hs, rfl⟩ : d.series = .s470A ∧ b1 = 0x04 := by simpa using hnamed
    simp [hs]
  split
  case isTrue hnamed =>
    obtain ⟨hs, rfl⟩ : d.series = .s470A ∧ b1 = d.movASpw13Enc := by simpa using hnamed
    simp [hs]
  case isFalse hfree =>
    have hfree : ¬ (d.series = .s470A ∧ b1 = d.movASpw13Enc) := by simpa using hfree
    simp only [hfree, not_false_eq_true, and_true]
    split
    case h_9 =>
      generalize hiNib b1 = o at *
      have ho : o.getLsbD 0 = true := by
        clear hnib hbit
        decide +revert
      simp [ho]
    all_goals simp_all

theorem ldDMBK_thirdByte (b : Byte) :
    (b.extractLsb' 6 2 == 0 && loNib b == 9) = (b == 0x09 || b == 0x19 || b == 0x29 || b == 0x39) := by
  revert b
  decide

/-- R88: the bodies after 03H that only TLCS-470A has. -/
theorem decodeLead03_isSome : (decodeLead03 d b1 b2).isSome =
    (b1 == 0x3B && (b2 == 0x59 || b2 == 0x19 || b2 == 0x99 || b2 == 0xD9) ||
     b1 == 0x3A && (b2 == 0xE9 || b2 == 0xA9 || b2 == 0x29 || b2 == 0x69) || b1 == 0x3A && d.stk13Op3 == some b2 ||
     b1 == 0x2C && d.ldDmbImmEnc == .suggested && (b2 == 0x09 || b2 == 0x19 || b2 == 0x29 || b2 == 0x39)) := by
  unfold decodeLead03
  split
  case h_9 => split <;> simp_all
  case h_10 =>
    rw [Bool.and_assoc, ldDMBK_thirdByte]
    split <;> simp_all
  case h_11 => simp_all
  all_goals rfl

theorem hiNib_eq_6 (b : Byte) : (hiNib b == 6) = decide (0x60 ≤ b.toNat ∧ b.toNat ≤ 0x6F) := by
  revert b
  decide

/-- R88: after such a byte, the decoder reads exactly the listed bodies. -/
theorem decodeLead3_isSome (hb0 : b0 = 0x01 ∨ b0 = 0x02 ∨ b0 = 0x03 ∨ b0 = 0x1C) :
    (decodeLead3 d b0 b1 b2).isSome = listedBody d b0 b1 b2 := by
  rw [decodeLead3, listedBody, ← hiNib_eq_6]
  cases hiNib b1 == 6 with
  | true => exact decodeBsl_isSome hb0 _
  | false =>
    cases d.series == .s470A with
    | false => rfl
    | true =>
      rcases hb0 with rfl | rfl | rfl | rfl
      · simp
      · have hbody (c : Bool) : (if c = true then some Instr.clrSTK13 else none).isSome = c := by cases c <;> rfl
        exact (hbody (b1 == 0x3A && d.stk13Op3 == some b2)).trans (by simp)
      · exact decodeLead03_isSome
      · simp

/-- R87 (a), (c) to (f): the first bytes, but for those of R88, after which the opcode map can answer nothing. -/
theorem firstByte_of_decodeMap_eq_none (hlead : isLead3 d.series b0 = false) (h : decodeMap d b0 b1 b2 = none) :
    b0 = 0x1C ∨ b0 = 0x36 ∨ b0 = 0x38 ∨ b0 = 0x3A := by
  obtain ⟨o, n, rfl⟩ := exists_nibbles b0
  rw [decodeMap, if_neg (Bool.eq_false_iff.1 hlead), hiNib_append, loNib_append] at h
  simp only at h
  split at h
  case h_1 => exact absurd h decodeRow0_ne_none
  case h_2 =>
    rw [decodeRow1_eq_none.1 h]
    decide
  case h_3 => exact absurd h decodeRow2_ne_none
  case h_4 =>
    unfold decodeRow3 at h
    split at h
    case h_7 | h_9 | h_11 => decide
    case h_10 => exact absurd h decodeGroup39_ne_none
    case h_12 => exact absurd h decodeGroup3B_ne_none
    all_goals cases h
  case h_6 => exact absurd h decodeRow5_ne_none
  all_goals cases h

/-- R87: the opcode map answers nothing exactly on the unassigned bytes. -/
theorem decodeMap_eq_none : decodeMap d b0 b1 b2 = none ↔ unassigned d b0 b1 b2 = true := by
  cases hlead : isLead3 d.series b0 with
  | true =>
    obtain ⟨hs, hb0⟩ := isLead3_iff.1 hlead
    rw [decodeMap, if_pos hlead, ← Option.isNone_iff_eq_none, ← Option.isSome_eq_false_iff, decodeLead3_isSome hb0]
    rcases hb0 with rfl | rfl | rfl | rfl
    all_goals simp [unassigned, hs]
  | false =>
    by_cases hfirst : b0 = 0x1C ∨ b0 = 0x36 ∨ b0 = 0x38 ∨ b0 = 0x3A
    · rcases hfirst with rfl | rfl | rfl | rfl
      · have hs : d.series = .s47 := by simpa [isLead3] using hlead
        simp [decodeMap, isLead3, decodeRow1, unassigned, hs]
      · have hmap : decodeMap d 0x36 b1 b2 = decodeGroup36 b1 := decodeMap_row3 (n := 0x6#4)
        rw [hmap, decodeGroup36_eq_none]
        simp [unassigned]
      · have hmap : decodeMap d 0x38 b1 b2 = decodeGroup38 b1 := decodeMap_row3 (n := 0x8#4)
        rw [hmap, decodeGroup38_eq_none]
        simp [unassigned]
      · have hmap : decodeMap d 0x3A b1 b2 = decodeGroup3A d b1 := decodeMap_row3 (n := 0xA#4)
        rw [hmap, decodeGroup3A_eq_none]
        simp [unassigned, imp_iff_not_or]
    · have hread : decodeMap d b0 b1 b2 ≠ none := mt (firstByte_of_decodeMap_eq_none hlead) hfirst
      simp only [not_or, ← beq_eq_false_iff_ne] at hfirst
      obtain ⟨h1C, h36, h38, h3A⟩ := hfirst
      have hassigned : unassigned d b0 b1 b2 = false := by
        rw [isLead3] at hlead
        rw [unassigned, hlead, h1C, h36, h38, h3A]
        simp only [Bool.and_false, Bool.false_and, Bool.or_false]
      simp [hread, hassigned]

/-- Three bytes are never too few, so the decoder rejects them only where the opcode map answers nothing. -/
theorem decode_eq_illegal : (∃ bs, decode d [b0, b1, b2] = .illegal bs) ↔ decodeMap d b0 b1 b2 = none := by
  have hlong : ¬ [b1, b2].length + 1 < instrLength d.series b0 := by simpa using instrLength_le d.series b0
  rw [decode, if_neg hlong]
  cases h : decodeMap d b0 ([b1, b2].getD 0 0) ([b1, b2].getD 1 0) with
  | none => exact ⟨fun _ => h, fun _ => ⟨_, rfl⟩⟩
  | some j => exact ⟨fun ⟨_, hans⟩ => (by cases hans), fun hnone => (by cases h.symm.trans hnone)⟩

end Encoding

/-! ### Advancing twice -/

theorem State.npc_advance (s : State) (m n : Nat) : (s.advance m).npc n = s.npc (m + n) :=
  BitVec.eq_of_toNat_eq <| by
    rw [npc_toNat, npc_toNat, advance_pc, npc_toNat, advance_dev, Nat.mod_add_mod, Nat.add_assoc]

theorem State.advance_advance (s : State) (m n : Nat) : (s.advance m).advance n = s.advance (m + n) :=
  congrArg (fun a => { s with pc := a }) (s.npc_advance m n)

/-! ### The statements -/

/-- Settles O1, by the branch of the opcode map that each instruction is in. -/
theorem encodeThenDecode : Obligations.EncodeThenDecode := by
  intro d i rest hd hi
  obtain ⟨bs, henc, hdec⟩ := decode_encode hd hi
  exact ⟨bs, henc, hdec rest⟩

/-- Settles O2: each table of the opcode map answers instructions whose words are the bytes read. -/
theorem decodeThenEncode : Obligations.DecodeThenEncode := by
  intro d i bytes rest _ h
  obtain ⟨bs, ⟨hi, henc⟩, hbytes⟩ := exists_hasWords_of_decode h
  exact ⟨hi, bs, henc, hbytes⟩

/-- Settles O3: the words are read back whole, so they are as many as the decoder takes, which its first byte says. -/
theorem lengthFromFirstByte : Obligations.LengthFromFirstByte := by
  intro d i hd hi
  obtain ⟨bs, henc, hdec⟩ := decode_encode hd hi
  have hlen := encode_length henc
  cases bs with
  | nil => cases hdec []
  | cons b0 r =>
    have hfirst := decode_cons_length (List.append_nil (b0 :: r) ▸ hdec [])
    exact ⟨b0, r, henc, hlen, hfirst.trans hlen⟩

/-- Settles O4: three bytes are never cut short, so only the opcode map rejects them. -/
theorem illegalExactlyUnassigned : Obligations.IllegalExactlyUnassigned := by
  intro d b0 b1 b2 _
  rw [decode_eq_illegal, decodeMap_eq_none]

/-- Settles O6: `EI` and `DI` keep every latch bit, and `LD HL, #jk` goes on by the bytes of both loads. -/
theorem spellingsEqualExpansions : Obligations.SpellingsEqualExpansions := by
  have hall (v : BitVec 6) : v &&& 0x3F = v := BitVec.and_allOnes
  refine ⟨fun _ _ => rfl, fun s => ?_, fun s => ?_, fun j k s => ⟨_, rfl, ?_⟩⟩
  · show execEi s = execEiclr 0x3F s
    rw [execEiclr, hall, execEi]
  · show execDi s = execDiclr 0x3F s
    rw [execDiclr, hall, execDi]
  · exact congrArg (checked []) (State.advance_advance { s with h := j, l := k, sf := true } 1 1)

/-- Settles O5, by reading each word. -/
theorem wordsDecodeAsWritten : Obligations.WordsDecodeAsWritten :=
  ⟨rfl, rfl, rfl, rfl, rfl, rfl, rfl, rfl, rfl, rfl, rfl, rfl, rfl, rfl⟩

end Sys2Proof.Machine
end

section
/-! SUPPORT. 40_data_transfer.md: one rule for each shape of an instruction that loads A, stores a word, or stores a word and steps L;
each instruction is an instance of its rule. -/

open Sys2Proof

namespace Sys2Proof.Machine

/-! ### Fields of the loaded values -/

/-- R114: the low four bits of a table byte. -/
theorem low_nibble_eq_ofNat (b : Byte) : b.extractLsb' 0 4 = BitVec.ofNat 4 (b.toNat % 16) :=
  BitVec.eq_of_toNat_eq (by simp)

/-- R115: the high four bits of a table byte. -/
theorem high_nibble_toNat (b : Byte) : (b.extractLsb' 4 4).toNat = b.toNat / 16 := by
  have hb := b.isLt
  simp only [BitVec.extractLsb'_toNat, Nat.shiftRight_eq_div_pow]
  omega

section Shapes

variable {i : Instr} {s t : State} {v : Nibble} {f : Bool} {len : Nat} {ea : DataAddr}

/-- An instruction with one access goes on to the state its writes lead to when that access passes. -/
theorem checked_singleton_of_none {c : Option Fault} (h : c = none) : checked [c] t = .next t :=
  checked_of_none t (List.forall_mem_singleton.2 h)

/-! ### Loads of A -/

/-- What `putA` and `advance` make of a state, field by field. -/
theorem State.putA_advance (s : State) (v : Nibble) (f : Bool) (len : Nat) :
    (s.putA v f).advance len = { s with a := v, zf := decide (v = 0), sf := f, pc := s.npc len } := rfl

/-- An instruction that goes on with `v` put in A loads A. -/
theorem loadsA_of_next (hexec : exec i s = .next ((s.putA v f).advance len)) : LoadsA i s v f len := by
  rw [LoadsA, hexec, State.putA_advance]

/-! ### Stores -/

/-- A state whose data memory is that of `s` after one store reads the stored word there and the old words elsewhere. -/
theorem readRam_of_ram_eq_writeRam (hwf : Memory.wf s.ram) (ht : t.ram = (s.writeRam ea v).ram) :
    t.readRam ea = v ∧ RamSameBut s t ea := by
  have hread (e : DataAddr) : t.readRam e = (s.writeRam ea v).readRam e := by rw [State.readRam, ht, State.readRam]
  exact ⟨(hread ea).trans (State.readRam_writeRam_same hwf ea v),
    fun e he => (hread e).trans (s.readRam_writeRam_other v he)⟩

/-- An instruction that goes on with one word, SF and pc written stores that word. -/
theorem storesWord_of_next (hwf : Memory.wf s.ram)
    (hexec : exec i s = .next (((s.writeRam ea v).setSF f).advance len)) : StoresWord i s ea v f len := by
  obtain ⟨hsame, hother⟩ := readRam_of_ram_eq_writeRam (t := ((s.writeRam ea v).setSF f).advance len) hwf rfl
  exact ⟨_, hexec, hsame, hother, rfl⟩

/-! ### Stores that step L -/

/-- SF after the increment of L is 0 exactly when L wraps (R117, R120). -/
theorem State.incL_sf_eq (s : State) : s.incL.sf = decide (s.l ≠ 15) := by
  have hl := s.l.isLt
  have hwrap : s.l = 15 ↔ s.l.toNat = 15 := BitVec.toNat_inj.symm
  rw [State.incL_sf, add4_snd, ← decide_not, decide_eq_decide, Ne, hwrap]
  show ¬ 16 ≤ s.l.toNat + 1 + 0 ↔ ¬ s.l.toNat = 15
  omega

/-- R117, R120: L after the increment, as a number. -/
theorem State.incL_l_toNat (s : State) : s.incL.l.toNat = (s.l.toNat + 1) % 16 := add4_fst_toNat s.l 1 false

/-- SF after the decrement of L is 0 exactly when L wraps (R118). -/
theorem State.decL_sf_eq (s : State) : s.decL.sf = decide (s.l ≠ 0) := by
  have hwrap : s.l = 0 ↔ s.l.toNat = 0 := BitVec.toNat_inj.symm
  rw [State.decL_sf, sub4_snd, decide_eq_decide, Ne, hwrap]
  show 1 + 0 ≤ s.l.toNat ↔ ¬ s.l.toNat = 0
  omega

/-- R118: L after the decrement, as a number. -/
theorem State.decL_l_toNat (s : State) : s.decL.l.toNat = (s.l.toNat + 15) % 16 := by
  rw [State.decL_l, sub4_fst_toNat]
  simp

/-- The instruction goes on with `v` in the word at `@HL`, the number `n` in L, its zero detect in ZF, `f` in SF, pc at the next
instruction, and every other word and field as before: the three clauses of O35. -/
def StoresAndStepsL (i : Instr) (s : State) (v : Nibble) (n : Nat) (f : Bool) : Prop :=
  ∃ t, exec i s = .next t ∧ t.readRam s.eaHL = v ∧ RamSameBut s t s.eaHL ∧ t.l.toNat = n ∧
    t = { s with ram := t.ram, l := t.l, zf := decide (t.l = 0), sf := f, pc := s.npc 1 }

/-- An instruction that writes the word at `@HL` and increments L (R117, R120). -/
theorem storesAndStepsL_of_incL (hwf : Memory.wf s.ram)
    (hexec : exec i s = .next ((s.writeRam s.eaHL v).incL.advance 1)) :
    StoresAndStepsL i s v ((s.l.toNat + 1) % 16) (decide (s.l ≠ 15)) := by
  obtain ⟨hsame, hother⟩ := readRam_of_ram_eq_writeRam (t := (s.writeRam s.eaHL v).incL.advance 1) hwf rfl
  refine ⟨_, hexec, hsame, hother, State.incL_l_toNat _, ?_⟩
  rw [← s.incL_sf_eq]
  rfl

/-- An instruction that writes the word at `@HL` and decrements L (R118). -/
theorem storesAndStepsL_of_decL (hwf : Memory.wf s.ram)
    (hexec : exec i s = .next ((s.writeRam s.eaHL v).decL.advance 1)) :
    StoresAndStepsL i s v ((s.l.toNat + 15) % 16) (decide (s.l ≠ 0)) := by
  obtain ⟨hsame, hother⟩ := readRam_of_ram_eq_writeRam (t := (s.writeRam s.eaHL v).decL.advance 1) hwf rfl
  refine ⟨_, hexec, hsame, hother, State.decL_l_toNat _, ?_⟩
  rw [← s.decL_sf_eq]
  rfl

end Shapes

/-! ### The statements -/

/-- Settles O31: each load puts its value in A by `putA`, after the check of its access if it makes one. -/
theorem loadAccumulator : Obligations.LoadAccumulator := fun _ =>
  ⟨fun hpass => loadsA_of_next (checked_singleton_of_none hpass),
    fun _ hpass => loadsA_of_next (checked_singleton_of_none hpass),
    fun _ => loadsA_of_next rfl, loadsA_of_next rfl, loadsA_of_next rfl⟩

/-- Settles O33: only `LD HL, x` makes accesses, and each passes under the premises. -/
theorem loadHL : Obligations.LoadHL := by
  refine fun s => ⟨fun x halign hlow hhigh => ?_, fun _ => rfl, fun _ => rfl, fun _ _ => rfl⟩
  have hpair : pairFault x = none := pairFault_eq_none.2 (pair_aligned_iff.2 halign)
  have hpass : ∀ c ∈ [pairFault x, s.ramFault (s.eaX x), s.ramFault (s.eaX (x + 1))], c = none :=
    List.forall_mem_cons.2 ⟨hpair, List.forall_mem_cons.2 ⟨hlow, List.forall_mem_singleton.2 hhigh⟩⟩
  exact checked_of_none _ hpass

/-- Settles O34: each store writes one word, whose access passes. -/
theorem storeWord : Obligations.StoreWord := fun _ hwf =>
  ⟨fun hpass => storesWord_of_next hwf (checked_singleton_of_none hpass),
    fun _ hpass => storesWord_of_next hwf (checked_singleton_of_none hpass),
    fun _ _ hpass => storesWord_of_next hwf (checked_singleton_of_none hpass)⟩

/-- Settles O32: inside program memory the table access passes; the byte's halves are its remainder and quotient by 16. -/
theorem tableLookup : Obligations.TableLookup := by
  intro s hinside
  have hpass : s.tableFault s.tableAddr = none := State.tableFault_eq_none.2 hinside
  rw [← low_nibble_eq_ofNat]
  exact ⟨loadsA_of_next (checked_singleton_of_none hpass), _, checked_singleton_of_none hpass, BitVec.toNat_add s.dc 1,
    high_nibble_toNat _, rfl⟩

/-- Settles O35: each store is made at the address of the old L, then L is stepped. -/
theorem storeAndStep : Obligations.StoreAndStep := fun _ hwf hpass =>
  ⟨storesAndStepsL_of_incL hwf (checked_singleton_of_none hpass),
    storesAndStepsL_of_decL hwf (checked_singleton_of_none hpass),
    fun _ => storesAndStepsL_of_incL hwf (checked_singleton_of_none hpass)⟩

end Sys2Proof.Machine
end

section
/-! SUPPORT. 41_exchange.md: one rule for an instruction that exchanges A with a data-memory word, the words after two stores for
`XCH HL, x`, and the statements; each instruction is an instance of its rule. -/

open Sys2Proof

namespace Sys2Proof.Machine

section Exchange

variable {i : Instr} {s t : State} {v w : Nibble} {len : Nat} {ea eb : DataAddr}

/-! ### A and a word -/

/-- The instruction goes on with A and the word at `ea` exchanged, the zero detect of the new A in ZF, 1 in SF, pc at the next
instruction, and every other word and field as before: the first two clauses of O36. -/
def ExchangesA (i : Instr) (s : State) (ea : DataAddr) (len : Nat) : Prop :=
  ∃ t, exec i s = .next t ∧ t.readRam ea = s.a ∧ RamSameBut s t ea ∧ t.a = s.readRam ea ∧
    t = { s with ram := t.ram, a := t.a, zf := decide (t.a = 0), sf := true, pc := s.npc len }

/-- An instruction that stores the old A and puts the word read before the store in A exchanges the two (R130, R131). -/
theorem exchangesA_of_next (hwf : Memory.wf s.ram)
    (hexec : exec i s = .next (((s.writeRam ea s.a).putA (s.readRam ea) true).advance len)) : ExchangesA i s ea len := by
  obtain ⟨hsame, hother⟩ :=
    readRam_of_ram_eq_writeRam (t := ((s.writeRam ea s.a).putA (s.readRam ea) true).advance len) hwf rfl
  exact ⟨_, hexec, hsame, hother, rfl, State.putA_advance _ _ _ _⟩

/-! ### HL and two words -/

/-- The two words of a pair operand are different words, even where `x + 1` wraps. -/
theorem State.eaX_ne_eaX_add_one (s : State) (x : Byte) : s.eaX x ≠ s.eaX (x + 1) := by
  intro h
  have haddr : x = x + 1 := congrArg DataAddr.addr h
  bv_omega

/-- R53, R54, R59: the three checks of a pair operand pass for an aligned operand whose words are both accessible. -/
theorem pairChecks_pass {x : Byte} (halign : x.toNat % 4 = 0) (hlow : s.ramFault (s.eaX x) = none)
    (hhigh : s.ramFault (s.eaX (x + 1)) = none) :
    ∀ c ∈ [pairFault x, s.ramFault (s.eaX x), s.ramFault (s.eaX (x + 1))], c = none :=
  List.forall_mem_cons.2 ⟨pairFault_eq_none.2 (pair_aligned_iff.2 halign),
    List.forall_mem_cons.2 ⟨hlow, List.forall_mem_singleton.2 hhigh⟩⟩

/-- A state whose data memory is that of `s` after stores to two different words reads both stored words there and the old words
elsewhere. -/
theorem readRam_of_ram_eq_writeRam_writeRam (hwf : Memory.wf s.ram) (hne : ea ≠ eb)
    (ht : t.ram = ((s.writeRam ea v).writeRam eb w).ram) :
    t.readRam ea = v ∧ t.readRam eb = w ∧ ∀ e : DataAddr, e ≠ ea → e ≠ eb → t.readRam e = s.readRam e := by
  obtain ⟨hsecond, hother⟩ := readRam_of_ram_eq_writeRam (State.writeRam_wf hwf ea v) ht
  exact ⟨(hother ea hne).trans (State.readRam_writeRam_same hwf ea v), hsecond,
    fun e hea heb => (hother e heb).trans (s.readRam_writeRam_other v hea)⟩

end Exchange

/-! ### The statements -/

/-- Settles O37: the exchanges with H and L put the old register in A by `putA`; the one with EIR leaves ZF out. -/
theorem exchangeRegisters : Obligations.ExchangeRegisters := fun s =>
  ⟨congrArg (checked []) (State.putA_advance { s with h := s.a } s.h true 1),
    congrArg (checked []) (State.putA_advance { s with l := s.a } s.l true 1), rfl⟩

/-- Settles O36: each access passes under the premises; `XCH HL, x` stores to two different words. -/
theorem exchangeMemory : Obligations.ExchangeMemory := by
  refine fun s hwf => ⟨fun hpass => exchangesA_of_next hwf (checked_singleton_of_none hpass),
    fun x hpass => exchangesA_of_next hwf (checked_singleton_of_none hpass), fun x halign hlow hhigh => ?_⟩
  have hexec : exec (.xchHLX x) s = .next ({ (s.writeRam (s.eaX x) s.l).writeRam (s.eaX (x + 1)) s.h with
      l := s.readRam (s.eaX x), h := s.readRam (s.eaX (x + 1)), sf := true }.advance 2) :=
    checked_of_none _ (pairChecks_pass halign hlow hhigh)
  obtain ⟨hl, hh, hother⟩ := readRam_of_ram_eq_writeRam_writeRam hwf (s.eaX_ne_eaX_add_one x) rfl
  exact ⟨_, hexec, hl, hh, hother, rfl⟩

end Sys2Proof.Machine
end

section
/-! SUPPORT. 42_input_output.md: one rule for each shape of an input (into A, into the word at `@HL`) and for an output of one value,
the latches after two port writes for `OUTB`, and the statements; each instruction follows from the rule of its shape. -/

open Sys2Proof

namespace Sys2Proof.Machine

section InputOutput

variable {i : Instr} {s t : State} {p q : BitVec 5} {v w : Nibble} {f : Bool} {len : Nat}

/-- An instruction with two accesses goes on to the state its writes lead to when both pass. -/
theorem checked_pair_of_none {c d : Option Fault} (hc : c = none) (hd : d = none) : checked [c, d] t = .next t :=
  checked_of_none t (List.forall_mem_cons.2 ⟨hc, List.forall_mem_singleton.2 hd⟩)

/-! ### Inputs -/

/-- The inverse of the zero detect, which R140 and R142 put in SF. -/
theorem not_isZero_eq (v : Nibble) : (!isZero v) = decide (v ≠ 0) := decide_not.symm

/-- 20_memory.md R61: a listed input is the value the port read takes. -/
theorem State.pinValue_of_pins_eq_cons {vs : List Nibble} (h : s.pins = v :: vs) : s.pinValue = v := by
  rw [State.pinValue, h]

/-- The instruction goes on with the input of port `p` in A, its zero detect in ZF, `f` in SF, pc at the next instruction, the input
drawn and its event recorded, and every other field as before: the clauses of O38 for `IN %p, A`. -/
def InputsA (i : Instr) (s : State) (p : BitVec 5) (f : Bool) : Prop :=
  exec i s = .next { s with
    a := s.pinValue, zf := decide (s.pinValue = 0), sf := f, pc := s.npc 2
    pins := s.pins.tail, events := .portIn p s.pinValue :: s.events, freeCount := s.freeCount + 1 }

/-- An instruction that draws an input and puts it in A (R140, R141). -/
theorem inputsA_of_next (hexec : exec i s = .next (((s.drew p).putA s.pinValue f).advance 2)) : InputsA i s p f := by
  rw [InputsA, hexec, State.putA_advance, State.drew_npc]
  rfl

/-- The instruction goes on with the input of port `p` in the word at `@HL`, `f` in SF, pc at the next instruction, the input drawn
and its event recorded, and every other word and field as before: the clauses of O38 for `IN %p, @HL`. -/
def InputsWord (i : Instr) (s : State) (p : BitVec 5) (f : Bool) : Prop :=
  ∃ t, exec i s = .next t ∧ t.readRam s.eaHL = s.pinValue ∧ RamSameBut s t s.eaHL ∧ t = { s with
    ram := t.ram, sf := f, pc := s.npc 2
    pins := s.pins.tail, events := .portIn p s.pinValue :: s.events, freeCount := s.freeCount + 1 }

/-- An instruction that draws an input and stores it at `@HL` (R142, R143). -/
theorem inputsWord_of_next (hwf : Memory.wf s.ram)
    (hexec : exec i s = .next ((((s.drew p).writeRam s.eaHL s.pinValue).setSF f).advance 2)) : InputsWord i s p f := by
  obtain ⟨hsame, hother⟩ :=
    readRam_of_ram_eq_writeRam (t := (((s.drew p).writeRam s.eaHL s.pinValue).setSF f).advance 2) hwf rfl
  exact ⟨_, hexec, hsame, hother, rfl⟩

/-! ### Outputs -/

/-- R62: a state whose latches are those of `s` after one port write holds the written value there and the old values elsewhere. -/
theorem latchOf_of_latch_eq_portWrite (ht : t.latch = (s.portWrite p v).latch) :
    t.latchOf p = v ∧ ∀ r, r ≠ p → t.latchOf r = s.latchOf r := by
  have hlatch (r : BitVec 5) : t.latchOf r = (s.portWrite p v).latchOf r := by rw [State.latchOf, ht, State.latchOf]
  exact ⟨(hlatch p).trans (s.portWrite_latchOf_same p v), fun r hr => (hlatch r).trans (s.portWrite_latchOf_other v hr)⟩

/-- A state whose latches are those of `s` after writes to two different ports holds both values there and the old values elsewhere. -/
theorem latchOf_of_latch_eq_portWrite_portWrite (hne : p ≠ q)
    (ht : t.latch = ((s.portWrite p v).portWrite q w).latch) :
    t.latchOf p = v ∧ t.latchOf q = w ∧ ∀ r, r ≠ p → r ≠ q → t.latchOf r = s.latchOf r := by
  obtain ⟨hsecond, hother⟩ := latchOf_of_latch_eq_portWrite ht
  exact ⟨(hother p hne).trans (s.portWrite_latchOf_same p v), hsecond,
    fun r hp hq => (hother r hq).trans (s.portWrite_latchOf_other v hp)⟩

/-- An instruction that goes on with one port, SF and pc written outputs that value (R144, R145, R146). -/
theorem writesPort_of_next (hexec : exec i s = .next (((s.portWrite p v).setSF true).advance len)) :
    WritesPort i s p v len := by
  obtain ⟨hsame, hother⟩ := latchOf_of_latch_eq_portWrite (t := ((s.portWrite p v).setSF true).advance len) rfl
  exact ⟨_, hexec, hsame, hother, rfl⟩

/-! ### The table byte of `OUTB` -/

/-- R147: the nibble that goes to port 01H, as a number; the one for port 02H is `high_nibble_toNat`. -/
theorem low_nibble_toNat (b : Byte) : (b.extractLsb' 0 4).toNat = b.toNat % 16 := BitVec.extractLsb'_toNat 0 4 b

/-- R57: `OUTB`'s table read passes where program memory holds 32 bytes and fits PC (log 24). -/
theorem State.tableFault_outbAddr (m : Nibble) (hmin : 32 ≤ s.dev.romSize) (hmax : s.dev.romSize ≤ 2 ^ s.dev.series.pcw) :
    s.tableFault (s.outbAddr m) = none := by
  obtain ⟨-, -, -, houtb⟩ := tableAddresses s m
  exact State.tableFault_eq_none.2 (houtb hmin hmax).2

/-- R57: `OUTB`'s table byte, by the number of its address (log 24). -/
theorem State.romByte_outbAddr (m : Nibble) (hmin : 32 ≤ s.dev.romSize) (hmax : s.dev.romSize ≤ 2 ^ s.dev.series.pcw) :
    s.romByte (s.outbAddr m) = Memory.read s.rom (s.dev.romSize - 32 + (16 * s.cf.toNat + m.toNat)) := by
  rw [State.romByte, State.outbAddr_toNat m hmin hmax]

/-- R147: where its accesses pass, `OUTB @HL` goes on with the halves of its table byte written to ports 01H and 02H in turn. -/
theorem exec_outbAtHL_of_accessible {d : Byte} (hd : s.romByte (s.outbAddr (s.readRam s.eaHL)) = d)
    (hram : s.ramFault s.eaHL = none) (htable : s.tableFault (s.outbAddr (s.readRam s.eaHL)) = none)
    (hport1 : s.portFault 0x01 = none) (hport2 : s.portFault 0x02 = none) :
    ∃ t, exec .outbAtHL s = .next t ∧
      t.latch = ((s.portWrite 0x01 (d.extractLsb' 0 4)).portWrite 0x02 (d.extractLsb' 4 4)).latch ∧
      t = { s with
        latch := t.latch
        events := .portOut 0x02 (d.extractLsb' 4 4) :: .portOut 0x01 (d.extractLsb' 0 4) :: s.events
        sf := true, pc := s.npc 1 } := by
  subst hd
  exact ⟨_, checked_of_none _ (List.forall_mem_cons.2 ⟨hram, List.forall_mem_cons.2 ⟨htable,
    List.forall_mem_cons.2 ⟨hport1, List.forall_mem_singleton.2 hport2⟩⟩⟩), rfl, rfl⟩

end InputOutput

/-! ### The statements -/

/-- Settles O38: each input draws its value and puts it in A or in the word at `@HL`, once its accesses pass; SF takes the inverse of
the zero detect from the low ports, 1 from the high ones. -/
theorem inputPort : Obligations.InputPort := by
  intro s p hwf
  rw [← not_isZero_eq]
  exact ⟨fun _ _ => State.pinValue_of_pins_eq_cons,
    fun hport => inputsA_of_next (checked_singleton_of_none hport),
    fun hport => inputsA_of_next (checked_singleton_of_none hport),
    fun hport hram => inputsWord_of_next hwf (checked_pair_of_none hport hram),
    fun hport hram => inputsWord_of_next hwf (checked_pair_of_none hport hram)⟩

/-- Settles O39: each output writes one port, once its accesses pass. -/
theorem outputPort : Obligations.OutputPort := fun _ =>
  ⟨fun _ hport => writesPort_of_next (checked_singleton_of_none hport),
    fun _ hram hport => writesPort_of_next (checked_pair_of_none hram hport),
    fun _ _ hport => writesPort_of_next (checked_singleton_of_none hport)⟩

/-- Settles O40: the address of the table byte does not wrap, and the byte's halves go to two different ports. -/
theorem outputTable : Obligations.OutputTable := by
  intro s d hmin hmax hram hport1 hport2 hd
  obtain ⟨t, hexec, hlatch, hframe⟩ := exec_outbAtHL_of_accessible ((State.romByte_outbAddr _ hmin hmax).trans hd.symm) hram
    (State.tableFault_outbAddr _ hmin hmax) hport1 hport2
  obtain ⟨hlow, hhigh, hother⟩ := latchOf_of_latch_eq_portWrite_portWrite (by decide) hlatch
  refine ⟨t, hexec, ?_, ?_, hother, ?_⟩
  · rw [hlow, low_nibble_toNat]
  · rw [hhigh, high_nibble_toNat]
  · rwa [hlow, hhigh]

end Sys2Proof.Machine
end

section
/-! SUPPORT. 43_arithmetic_logical.md: `add4` and `sub4` as sums and differences of words with the flags the rules name, one rule for
each place a result goes (A, the word in data memory, the flags of a compare), and the statements; each instruction follows from its
rule. -/

open Sys2Proof

namespace Sys2Proof.Machine

section Arithmetic

variable {i : Instr} {s : State} {m n r v : Nibble} {f g : Bool} {len : Nat} {ea : DataAddr}

/-! ### Sums (R189) -/

/-- Without a carry in, the sum is that of the words. -/
theorem add4_fst_eq (a b : Nibble) : (add4 a b false).1 = a + b :=
  BitVec.eq_of_toNat_eq (add4_fst_toNat a b false)

/-- The inverse of the carry, which the additions put in SF. -/
theorem not_add4_snd_eq (a b : Nibble) : (!(add4 a b false).2) = decide (a.toNat + b.toNat < 16) := by
  rw [add4_snd, ← decide_not, decide_eq_decide]
  exact Nat.not_le

/-- R176, R178, R180: an increment carries exactly at 15, as in the step of L after a store. -/
theorem not_add4_one_snd_eq (a : Nibble) : (!(add4 a 1 false).2) = decide (a ≠ 15) :=
  State.incL_sf_eq { State.reset with l := a }

/-- R167: the sum and the carry are the five bits of the exact sum. -/
theorem add4_toNat (a b : Nibble) (c : Bool) :
    (add4 a b c).1.toNat + 16 * (add4 a b c).2.toNat = a.toNat + b.toNat + c.toNat := by
  have ha := a.isLt
  have hb := b.isLt
  have hc : c.toNat ≤ 1 := Bool.toNat_le c
  rw [add4_fst_toNat, add4_snd]
  by_cases hcarry : 16 ≤ a.toNat + b.toNat + c.toNat
  · rw [decide_eq_true hcarry, Bool.toNat_true]
    omega
  · rw [decide_eq_false hcarry, Bool.toNat_false]
    omega

/-! ### Differences (R189) -/

/-- Without a borrow in, the difference is that of the words. -/
theorem sub4_fst_eq (a b : Nibble) : (sub4 a b false).1 = a - b := by
  have hb := b.isLt
  apply BitVec.eq_of_toNat_eq
  rw [sub4_fst_toNat, BitVec.toNat_sub, Bool.toNat_false]
  omega

/-- A compare finds its operands equal exactly when they differ by 0. -/
theorem isZero_sub4_fst (a b : Nibble) : isZero (sub4 a b false).1 = decide (a = b) := by
  rw [sub4_fst_eq, Bool.eq_iff_iff, isZero_iff, decide_eq_true_iff, sub_eq_zero]

/-- R177, R179, R181: a decrement borrows exactly at 0, as in the step of L after a store. -/
theorem sub4_one_snd_eq (a : Nibble) : (sub4 a 1 false).2 = decide (a ≠ 0) :=
  State.decL_sf_eq { State.reset with l := a }

/-- R173: the difference and the borrow make the exact difference. -/
theorem sub4_toNat (a b : Nibble) (w : Bool) :
    (sub4 a b w).1.toNat + b.toNat + w.toNat = a.toNat + 16 * (!(sub4 a b w).2).toNat := by
  have ha := a.isLt
  have hb := b.isLt
  have hw : w.toNat ≤ 1 := Bool.toNat_le w
  rw [sub4_fst_toNat, sub4_snd]
  by_cases hfits : b.toNat + w.toNat ≤ a.toNat
  · rw [decide_eq_true hfits, Bool.not_true, Bool.toNat_false]
    omega
  · rw [decide_eq_false hfits, Bool.not_false, Bool.toNat_true]
    omega

/-! ### Results in A -/

/-- An instruction that puts a result in A loads A with it; the equations say what the result and SF are in the rule's
terms. -/
theorem loadsA_of_result (hvalue : r = v) (hflag : g = f) (hexec : exec i s = .next ((s.putA r g).advance len)) :
    LoadsA i s v f len := by
  subst hvalue hflag
  exact loadsA_of_next hexec

/-! ### Results in data memory -/

/-- An instruction that stores a result with its zero detect; the equations say what the result and SF are in the rule's
terms. -/
theorem storesWordZS_of_result (hwf : Memory.wf s.ram) (hvalue : r = v) (hflag : g = f)
    (hexec : exec i s = .next (((s.writeRam ea r).setZS (isZero r) g).advance len)) : StoresWordZS i s ea v f len := by
  subst hvalue hflag
  obtain ⟨hsame, hother⟩ :=
    readRam_of_ram_eq_writeRam (t := ((s.writeRam ea r).setZS (isZero r) g).advance len) hwf rfl
  exact ⟨_, hexec, hsame, hother, rfl⟩

/-! ### Compares -/

/-- R160 to R163: an instruction that sets the flags of `m - n` compares the two. -/
theorem compares_of_next (hexec : exec i s = .next ((s.setCompare (sub4 m n false)).advance len)) : Compares i s m n len := by
  have hdiffer : (!isZero (sub4 m n false).1) = decide (m ≠ n) := by rw [isZero_sub4_fst, decide_not]
  have hfits : (sub4 m n false).2 = decide (n.toNat ≤ m.toNat) := sub4_snd m n false
  rw [Compares, hexec, ← hfits, ← isZero_sub4_fst, ← hdiffer]
  rfl

/-- R164, R165: what the compare of a register with `k` makes of a state, with CF kept. -/
theorem State.setZS_sub4_advance (s : State) (k reg : Nibble) (len : Nat) :
    (s.setZS (isZero (sub4 k reg false).1) (sub4 k reg false).2).advance len =
      { s with zf := decide (reg = k), sf := decide (reg.toNat ≤ k.toNat), pc := s.npc len } := by
  rw [isZero_sub4_fst, sub4_snd, decide_eq_decide.2 (eq_comm (a := k))]
  rfl

/-! ### Logical results -/

/-- R188: an exclusive or is 0 exactly when its operands are equal. -/
theorem not_isZero_xor (a b : Nibble) : (!isZero (a ^^^ b)) = decide (a ≠ b) := by
  rw [not_isZero_eq, decide_eq_decide]
  exact not_congr BitVec.xor_eq_zero_iff

end Arithmetic

/-! ### The statements -/

/-- Settles O43: the five-bit equations are those of `add4` and `sub4`; SUBRC borrows the inverse of CF. -/
theorem addSubtractWithCarry : Obligations.AddSubtractWithCarry := fun s hpass =>
  ⟨⟨_, checked_singleton_of_none hpass, add4_toNat s.a (s.readRam s.eaHL) s.cf, rfl⟩,
    ⟨_, checked_singleton_of_none hpass, sub4_toNat (s.readRam s.eaHL) s.a (!s.cf), rfl⟩⟩

/-- Settles O41: A and memory are compared by `setCompare`, once the access passes; H and L leave CF out. -/
theorem compareInstructions : Obligations.CompareInstructions := fun s =>
  ⟨fun hpass => compares_of_next (checked_singleton_of_none hpass),
    fun _ hpass => compares_of_next (checked_singleton_of_none hpass),
    fun _ _ hpass => compares_of_next (checked_singleton_of_none hpass),
    fun k => ⟨compares_of_next rfl, congrArg (checked []) (s.setZS_sub4_advance k s.h 2),
      congrArg (checked []) (s.setZS_sub4_advance k s.l 2)⟩⟩

/-- Settles O42: each addition is `add4` without a carry in; the increments carry at 15 only. -/
theorem addToRegister : Obligations.AddToRegister := by
  refine fun s k => ⟨fun hpass => loadsA_of_result (add4_fst_eq _ _) (not_add4_snd_eq _ _) (checked_singleton_of_none hpass),
    loadsA_of_result (add4_fst_eq _ _) (not_add4_snd_eq _ _) rfl,
    loadsA_of_result (add4_fst_eq _ _) (not_add4_one_snd_eq _) rfl, ?addHK, ?addLK, ?incL⟩
  case addHK =>
    rw [← add4_fst_eq s.h k, ← not_add4_snd_eq]
    rfl
  case addLK =>
    rw [← add4_fst_eq s.l k, ← not_add4_snd_eq]
    rfl
  case incL =>
    rw [← add4_fst_eq s.l 1, ← not_add4_one_snd_eq]
    rfl

/-- Settles O44: each stores its result at the word it read, once the access passes; `SUBR` takes the word from k. -/
theorem memoryArithmetic : Obligations.MemoryArithmetic := fun _ _ hwf =>
  ⟨fun hpass =>
    ⟨storesWordZS_of_result hwf (add4_fst_eq _ _) (not_add4_snd_eq _ _) (checked_singleton_of_none hpass),
      storesWordZS_of_result hwf (sub4_fst_eq _ _) (sub4_snd _ _ false) (checked_singleton_of_none hpass),
      storesWordZS_of_result hwf (add4_fst_eq _ _) (not_add4_one_snd_eq _) (checked_singleton_of_none hpass),
      storesWordZS_of_result hwf (sub4_fst_eq _ _) (sub4_one_snd_eq _) (checked_singleton_of_none hpass)⟩,
    fun _ hpass =>
      storesWordZS_of_result hwf (add4_fst_eq _ _) (not_add4_snd_eq _ _) (checked_singleton_of_none hpass)⟩

/-- Settles O45: each subtraction is `sub4` without a borrow in; the decrements borrow at 0 only. -/
theorem subtractRegister : Obligations.SubtractRegister := by
  refine fun s => ⟨fun _ => loadsA_of_result (sub4_fst_eq _ _) (sub4_snd _ _ false) rfl,
    loadsA_of_result (sub4_fst_eq _ _) (sub4_one_snd_eq _) rfl, ?decL⟩
  case decL =>
    rw [← sub4_fst_eq s.l 1, ← sub4_one_snd_eq]
    rfl

/-- Settles O46: SF is the inverse of the zero detect, which for XOR says that the operands differ. -/
theorem logicalOperations : Obligations.LogicalOperations := fun _ _ =>
  ⟨loadsA_of_result rfl (not_isZero_eq _) rfl, loadsA_of_result rfl (not_isZero_eq _) rfl, fun hpass =>
    ⟨loadsA_of_result rfl (not_isZero_eq _) (checked_singleton_of_none hpass),
      loadsA_of_result rfl (not_isZero_eq _) (checked_singleton_of_none hpass),
      loadsA_of_result rfl (not_isZero_xor _ _) (checked_singleton_of_none hpass), fun hwf =>
      ⟨storesWordZS_of_result hwf rfl (not_isZero_eq _) (checked_singleton_of_none hpass),
        storesWordZS_of_result hwf rfl (not_isZero_eq _) (checked_singleton_of_none hpass)⟩⟩⟩

end Sys2Proof.Machine
end

section
/-! SUPPORT. 44_rotation.md: the ring of A and CF as a five-bit number, CF above A before `RORC` and after `ROLC`: each rotation is an
equation of such numbers, and the two equations together say that `RORC` undoes `ROLC`. -/

open Sys2Proof

namespace Sys2Proof.Machine

/-! ### The ring as a number -/

/-- The top bit of a word, as a number. -/
theorem getLsbD_three_toNat (a : Nibble) : (a.getLsbD 3).toNat = a.toNat / 8 := by
  have ha := a.isLt
  rw [BitVec.getLsbD, Nat.toNat_testBit]
  omega

/-- The bottom bit of a word, as a number. -/
theorem getLsbD_zero_toNat (a : Nibble) : (a.getLsbD 0).toNat = a.toNat % 2 := by
  rw [BitVec.getLsbD, Nat.toNat_testBit, pow_zero, Nat.div_one]

/-- R200: bits 2 to 0 move up and the old CF enters below them. -/
theorem rotLeft_fst_toNat (a : Nibble) (c : Bool) : (rotLeft a c).1.toNat = a.toNat % 8 * 2 + c.toNat := by
  rw [rotLeft, append_toNat, BitVec.extractLsb'_toNat, Nat.shiftRight_zero, BitVec.toNat_ofBool]
  norm_num

/-- R201: bits 3 to 1 move down and the old CF enters above them. -/
theorem rotRight_fst_toNat (a : Nibble) (c : Bool) : (rotRight a c).1.toNat = c.toNat * 8 + a.toNat / 2 := by
  have ha := a.isLt
  rw [rotRight, append_toNat, BitVec.extractLsb'_toNat, Nat.shiftRight_eq_div_pow, BitVec.toNat_ofBool]
  omega

/-- R200: the new A with the new CF above it is twice the old A, with the old CF below it. -/
theorem rotLeft_toNat (a : Nibble) (c : Bool) :
    (rotLeft a c).1.toNat + 16 * (rotLeft a c).2.toNat = 2 * a.toNat + c.toNat := by
  have hout : (rotLeft a c).2.toNat = a.toNat / 8 := getLsbD_three_toNat a
  rw [rotLeft_fst_toNat, hout]
  omega

/-- R201: the new A with the new CF below it is the old A with the old CF above it. -/
theorem rotRight_toNat (a : Nibble) (c : Bool) :
    2 * (rotRight a c).1.toNat + (rotRight a c).2.toNat = a.toNat + 16 * c.toNat := by
  have hout : (rotRight a c).2.toNat = a.toNat % 2 := getLsbD_zero_toNat a
  rw [rotRight_fst_toNat, hout]
  omega

/-- R201: the right rotation takes the ring back where the left rotation found it: doubled, and with a bit below, both pairs make
the same number. -/
theorem rotRight_rotLeft (a : Nibble) (c : Bool) : rotRight (rotLeft a c).1 (rotLeft a c).2 = (a, c) := by
  have hring := (rotRight_toNat (rotLeft a c).1 (rotLeft a c).2).trans (rotLeft_toNat a c)
  have hold : c.toNat ≤ 1 := Bool.toNat_le c
  have hout : (rotRight (rotLeft a c).1 (rotLeft a c).2).2.toNat ≤ 1 := Bool.toNat_le _
  have hcf : (rotRight (rotLeft a c).1 (rotLeft a c).2).2.toNat = c.toNat := by omega
  have ha : (rotRight (rotLeft a c).1 (rotLeft a c).2).1.toNat = a.toNat := by omega
  have hinj : Function.Injective Bool.toNat := Function.LeftInverse.injective Bool.ofNat_toNat
  exact Prod.ext (BitVec.eq_of_toNat_eq ha) (hinj hcf)

/-! ### The instructions -/

/-- What a rotation makes of a state: the new pair in A and CF, and the inverse of the bit shifted out in SF. -/
def State.putRotated (s : State) (r : Nibble × Bool) : State :=
  { s with a := r.1, cf := r.2, zf := decide (r.1 = 0), sf := !r.2, pc := s.npc 1 }

theorem exec_rolcA (s : State) : exec .rolcA s = .next (s.putRotated (rotLeft s.a s.cf)) := rfl

theorem exec_rorcA (s : State) : exec .rorcA s = .next (s.putRotated (rotRight s.a s.cf)) := rfl

/-- Settles O47: each rotation puts its pair, whose number is the ring turned by one; `RORC` of the pair of `ROLC` is the old
pair. -/
theorem rotations : Obligations.Rotations := by
  refine ⟨fun _ => ⟨rfl, rfl⟩, rfl, rfl, fun s => ⟨⟨_, exec_rolcA s, rotLeft_toNat s.a s.cf, rfl, _, exec_rorcA _, ?a, ?cf⟩,
    ⟨_, exec_rorcA s, rotRight_toNat s.a s.cf, rfl⟩⟩⟩
  case a => exact congrArg Prod.fst (rotRight_rotLeft s.a s.cf)
  case cf => exact congrArg Prod.snd (rotRight_rotLeft s.a s.cf)

end Sys2Proof.Machine
end

section
/-! SUPPORT. 45_bit_manipulation.md: what `clrBit` and `setBit` do to each bit, the port and bit of `@L` by their numbers, one rule for
the tests of a known value and one for each source of a port bit, and the statements; each instruction follows from its rule. -/

open Sys2Proof

namespace Sys2Proof.Machine

section Bits

variable {i : Instr} {s : State} {p : BitVec 5} {f : Bool} {len : Nat}

/-! ### Bits of a word -/

/-- The mask of `clrBit` and `setBit` has the one bit that the instruction names: `b` is below 4, so it is not shifted out. -/
theorem getLsbD_bitMask (b : BitVec 2) (j : Nat) : (1#4 <<< b.toNat).getLsbD j = decide (j = b.toNat) := by
  have hb : b.toNat < 4 := b.isLt
  rw [← BitVec.twoPow_eq, BitVec.getLsbD_twoPow, decide_eq_true hb, Bool.true_and, decide_eq_decide]
  exact eq_comm

/-- R210 to R213: `clrBit` puts 0 in bit b and keeps the others. -/
theorem getLsbD_clrBit (v : Nibble) (b : BitVec 2) :
    ∀ j : Nat, j < 4 → (clrBit v b).getLsbD j = (decide (j ≠ b.toNat) && v.getLsbD j) := by
  intro j hj
  rw [clrBit, BitVec.getLsbD_and, BitVec.getLsbD_not, getLsbD_bitMask, decide_eq_true hj, Bool.true_and, decide_not,
    Bool.and_comm]

/-- R214 to R217: `setBit` puts 1 in bit b and keeps the others. -/
theorem getLsbD_setBit (v : Nibble) (b : BitVec 2) :
    ∀ j : Nat, j < 4 → (setBit v b).getLsbD j = (decide (j = b.toNat) || v.getLsbD j) := by
  intro j _
  rw [setBit, BitVec.getLsbD_or, getLsbD_bitMask, Bool.or_comm]

/-! ### The port of `@L` -/

/-- R213: the port that `@L` names is the one with the number 4 + L[3:2]. -/
theorem State.eq_portAtL (hp : p.toNat = 4 + s.l.toNat / 4) : p = s.portAtL :=
  BitVec.eq_of_toNat_eq (hp.trans s.portAtL_toNat.symm)

/-! ### Tests -/

/-- An instruction that goes on with SF and pc written sets SF (R218 to R220, R224). -/
theorem setsSF_of_next (hexec : exec i s = .next ((s.setSF f).advance len)) : SetsSF i s f len := hexec

section PortBit

variable {test : Nibble → Bool}

/-- 20_memory.md R63: a test of a bit of an output port tests the latch and draws nothing. -/
theorem setsSF_of_bitSource_of_output (hkind : Device.kindOf s.dev p = .output)
    (hexec : exec i s = .next (((s.bitSourced p).setSF (test (s.bitSource p))).advance len)) :
    SetsSF i s (test (s.latchOf p)) len := by
  obtain ⟨hstate, hvalue⟩ := State.bitSourced_of_output hkind
  rw [hstate, hvalue] at hexec
  exact setsSF_of_next hexec

/-- R61, R63: a test of a bit of any other port draws the value that it tests. -/
theorem exec_of_bitSource_of_not_output (hkind : Device.kindOf s.dev p ≠ .output)
    (hexec : exec i s = .next (((s.bitSourced p).setSF (test (s.bitSource p))).advance len)) :
    exec i s = .next { s.drew p with sf := test s.pinValue, pc := s.npc len } := by
  obtain ⟨hstate, hvalue⟩ := State.bitSourced_of_not_output hkind
  rw [hexec, hstate, hvalue, ← s.drew_npc p]
  rfl

end PortBit

end Bits

/-! ### The statements -/

/-- Settles O48: each stores the word it read with bit b cleared or set, once the access passes. -/
theorem memoryBits : Obligations.MemoryBits := fun _ b hwf =>
  ⟨fun hpass =>
    ⟨⟨_, getLsbD_clrBit _ b, storesWord_of_next hwf (checked_singleton_of_none hpass)⟩,
      ⟨_, getLsbD_setBit _ b, storesWord_of_next hwf (checked_singleton_of_none hpass)⟩⟩,
    fun _ hpass =>
      ⟨⟨_, getLsbD_clrBit _ b, storesWord_of_next hwf (checked_singleton_of_none hpass)⟩,
        ⟨_, getLsbD_setBit _ b, storesWord_of_next hwf (checked_singleton_of_none hpass)⟩⟩⟩

/-- Settles O49: each writes the port's latch back with one bit cleared or set, once the access passes; `@L` is a port and a bit by
their numbers. -/
theorem portBits : Obligations.PortBits := by
  refine fun s => ⟨fun p b hpass =>
    ⟨⟨_, getLsbD_clrBit _ b, writesPort_of_next (checked_singleton_of_none hpass)⟩,
      ⟨_, getLsbD_setBit _ b, writesPort_of_next (checked_singleton_of_none hpass)⟩⟩, fun p hp hpass => ?atL⟩
  case atL =>
    obtain rfl := State.eq_portAtL hp
    rw [← s.bitAtL_toNat]
    exact ⟨⟨_, getLsbD_clrBit _ s.bitAtL, writesPort_of_next (checked_singleton_of_none hpass)⟩,
      ⟨_, getLsbD_setBit _ s.bitAtL, writesPort_of_next (checked_singleton_of_none hpass)⟩⟩

/-- Settles O51: each tests a bit of its port's source, once the access passes: the latch of an output port, a draw from any other. -/
theorem portBitTests : Obligations.PortBitTests := by
  refine fun s => ⟨fun p b hpass => ⟨fun hkind => ?output, fun hkind => ?drawn⟩, fun p hp hpass => ?atL⟩
  case output =>
    exact ⟨setsSF_of_bitSource_of_output (test := (!bitOf · b)) hkind (checked_singleton_of_none hpass),
      setsSF_of_bitSource_of_output (test := (bitOf · b)) hkind (checked_singleton_of_none hpass)⟩
  case drawn =>
    exact ⟨exec_of_bitSource_of_not_output (test := (!bitOf · b)) hkind (checked_singleton_of_none hpass),
      exec_of_bitSource_of_not_output (test := (bitOf · b)) hkind (checked_singleton_of_none hpass)⟩
  case atL =>
    obtain rfl := State.eq_portAtL hp
    rw [← s.bitAtL_toNat]
    exact ⟨fun hkind =>
        setsSF_of_bitSource_of_output (test := (!bitOf · s.bitAtL)) hkind (checked_singleton_of_none hpass),
      fun hkind =>
        exec_of_bitSource_of_not_output (test := (!bitOf · s.bitAtL)) hkind (checked_singleton_of_none hpass)⟩

/-- Settles O50: each puts the bit or its inverse in SF, once its access passes; `TEST A, b` makes none. -/
theorem memoryBitTests : Obligations.MemoryBitTests := fun _ _ =>
  ⟨fun hpass => setsSF_of_next (checked_singleton_of_none hpass),
    fun _ hpass => ⟨setsSF_of_next (checked_singleton_of_none hpass), setsSF_of_next (checked_singleton_of_none hpass)⟩,
    setsSF_of_next rfl⟩

end Sys2Proof.Machine
end

section
/-! SUPPORT. 46_flag_and_bank_control.md: the bits of DMB by their numbers, one rule for an instruction that writes DMB and one for a
test whose flag the rule gives as a number, and the statements; each instruction follows from its rule. -/

open Sys2Proof

namespace Sys2Proof.Machine

/-! ### The two bits of DMB as numbers -/

/-- R240: the upper bit of DMB alone. -/
theorem dmb_and_two (v : BitVec 2) : v &&& 0b10 = BitVec.ofNat 2 (v.toNat / 2 * 2) := by
  revert v
  decide

/-- R241: the lower bit of DMB set. -/
theorem dmb_or_one (v : BitVec 2) : v ||| 0b01 = BitVec.ofNat 2 (v.toNat / 2 * 2 + 1) := by
  revert v
  decide

/-- R244: the lower bit of DMB alone. -/
theorem dmb_and_one (v : BitVec 2) : v &&& 0b01 = BitVec.ofNat 2 (v.toNat % 2) := by
  revert v
  decide

/-- R245: the upper bit of DMB set. -/
theorem dmb_or_two (v : BitVec 2) : v ||| 0b10 = BitVec.ofNat 2 (v.toNat % 2 + 2) := by
  revert v
  decide

section Dmb

variable {i : Instr} {s : State} {v w : BitVec 2} {f g : Bool} {len : Nat}

theorem State.dmbBit_zero (s : State) : s.dmbBit 0 = decide (s.dmb.toNat % 2 = 1) := Nat.testBit_zero _

theorem State.not_dmbBit_zero (s : State) : (!s.dmbBit 0) = decide (s.dmb.toNat % 2 = 0) := by
  rw [s.dmbBit_zero, ← decide_not, decide_eq_decide]
  exact Nat.mod_two_not_eq_one

theorem State.dmbBit_one (s : State) : s.dmbBit 1 = decide (s.dmb.toNat / 2 = 1) := by
  have hdmb := s.dmb.isLt
  rw [State.dmbBit, BitVec.getLsbD, Nat.testBit_eq_decide_div_mod_eq, decide_eq_decide]
  omega

theorem State.not_dmbBit_one (s : State) : (!s.dmbBit 1) = decide (s.dmb.toNat / 2 = 0) := by
  have hdmb := s.dmb.isLt
  rw [s.dmbBit_one, ← decide_not, decide_eq_decide]
  omega

/-! ### The width of DMB (10_state.md R27) -/

/-- TLCS-470A has both bits of DMB. -/
theorem narrowDmb_of_s470A (hs : s.dev.series = .s470A) (v : BitVec 2) : narrowDmb s.dev.series v = v := by
  rw [hs]
  rfl

/-- TLCS-470 has the lower bit of DMB alone. -/
theorem narrowDmb_of_s470 (hs : s.dev.series = .s470) (v : BitVec 2) : narrowDmb s.dev.series v = v &&& 1 := by
  rw [hs]
  rfl

/-- A DMB at the width of TLCS-470 is its lower bit, as a number. -/
theorem State.dmb_mod_two_of_s470 (hs : s.dev.series = .s470) (hfits : s.dmbFits) : s.dmb.toNat % 2 = s.dmb.toNat :=
  (State.dmbv_toNat_of_s470 hs).symm.trans (congrArg BitVec.toNat hfits)

/-- On TLCS-470 the bit of DMB is DMB. -/
theorem State.dmbBit_zero_of_s470 (hs : s.dev.series = .s470) (hfits : s.dmbFits) : s.dmbBit 0 = decide (s.dmb = 1) := by
  rw [s.dmbBit_zero, State.dmb_mod_two_of_s470 hs hfits, decide_eq_decide]
  exact BitVec.toNat_inj (y := 1#2)

/-- On TLCS-470 the inverse of the bit says that DMB is 0. -/
theorem State.not_dmbBit_zero_of_s470 (hs : s.dev.series = .s470) (hfits : s.dmbFits) :
    (!s.dmbBit 0) = decide (s.dmb = 0) := by
  rw [s.not_dmbBit_zero, State.dmb_mod_two_of_s470 hs hfits, decide_eq_decide]
  exact BitVec.toNat_inj (y := 0#2)

/-! ### Moves between DMB and a word -/

/-- R249, R250: DMB takes the low two bits of a word. -/
theorem low_bits_eq_ofNat (m : Nibble) : m.extractLsb' 0 2 = BitVec.ofNat 2 (m.toNat % 4) :=
  BitVec.eq_of_toNat_eq (by simp)

/-- R251, R252: DMB widened to a word keeps its number. -/
theorem widened_dmb_eq_ofNat (v : BitVec 2) : (0#2 ++ v : Nibble) = BitVec.ofNat 4 v.toNat :=
  BitVec.eq_of_toNat_eq ((append_toNat 0#2 v).trans (by bv_omega))

/-- R251, R252: a widened DMB is 0 exactly when DMB is. -/
theorem not_isZero_widened_dmb (v : BitVec 2) : (!isZero (0#2 ++ v : Nibble)) = decide (v ≠ 0) := by
  revert v
  decide

/-! ### The rules -/

/-- An instruction that writes DMB; the equation says what the value is at the width of the series. -/
theorem setsDmb_of_narrowDmb (hvalue : narrowDmb s.dev.series w = v)
    (hexec : exec i s = .next (((s.setDmb w).setSF true).advance len)) : SetsDmb i s v len := by
  subst hvalue
  exact hexec

/-- An instruction that writes DMB on TLCS-470A, where no bit is lost. -/
theorem setsDmb_of_s470A (hs : s.dev.series = .s470A) (hvalue : w = v)
    (hexec : exec i s = .next (((s.setDmb w).setSF true).advance len)) : SetsDmb i s v len :=
  setsDmb_of_narrowDmb ((narrowDmb_of_s470A hs w).trans hvalue) hexec

/-- A test; the equation says what SF is in the rule's terms. -/
theorem setsSF_of_result (hflag : g = f) (hexec : exec i s = .next ((s.setSF g).advance len)) : SetsSF i s f len :=
  setsSF_of_next (hflag ▸ hexec)

end Dmb

/-! ### The statements -/

/-- Settles O52: each writes one or two flags and pc, and makes no access. -/
theorem flagInstructions : Obligations.FlagInstructions := fun _ =>
  ⟨rfl, rfl, setsSF_of_next rfl, fun _ => ⟨rfl, rfl, setsSF_of_next rfl⟩⟩

/-- Settles O53: on TLCS-470 the bit is DMB, whose width R27 fixes; on TLCS-470A each mask is the number that keeps the other bit. -/
theorem bankBits : Obligations.BankBits := by
  refine fun s => ⟨fun hs hfits => ?oneBit, fun hs => ?twoBits⟩
  case oneBit =>
    exact ⟨setsDmb_of_narrowDmb (narrowDmb_of_s470 hs 0) rfl, setsDmb_of_narrowDmb (narrowDmb_of_s470 hs 1) rfl,
      setsSF_of_result (State.not_dmbBit_zero_of_s470 hs hfits) rfl,
      setsSF_of_result (State.dmbBit_zero_of_s470 hs hfits) rfl⟩
  case twoBits =>
    exact ⟨setsDmb_of_s470A hs (dmb_and_two s.dmb) rfl, setsDmb_of_s470A hs (dmb_or_one s.dmb) rfl,
      setsDmb_of_s470A hs (dmb_and_one s.dmb) rfl, setsDmb_of_s470A hs (dmb_or_two s.dmb) rfl,
      setsSF_of_result s.not_dmbBit_zero rfl, setsSF_of_result s.dmbBit_zero rfl,
      setsSF_of_result s.not_dmbBit_one rfl, setsSF_of_result s.dmbBit_one rfl⟩

/-- Settles O54: DMB takes two bits and gives a word of the same number; the word at HL is that of the bank in force before, once
the access passes. -/
theorem bankTransfers : Obligations.BankTransfers := by
  refine fun s hs => ⟨fun k => setsDmb_of_s470A hs rfl rfl,
    fun hpass => setsDmb_of_s470A hs (low_bits_eq_ofNat _) (checked_singleton_of_none hpass),
    setsDmb_of_s470A hs (low_bits_eq_ofNat s.a) rfl,
    loadsA_of_result (widened_dmb_eq_ofNat s.dmb) (not_isZero_widened_dmb s.dmb) rfl, fun hwf hpass => ?store⟩
  case store =>
    rw [← widened_dmb_eq_ofNat, ← not_isZero_widened_dmb]
    exact storesWord_of_next hwf (checked_singleton_of_none hpass)

end Sys2Proof.Machine
end

section
/-! SUPPORT. 47_branch.md: an address as its high and low part, one rule for an instruction that branches to an address PC can hold,
and the statements; each branch, and the choice among them that the assembler makes, follows from the rule. -/

open Sys2Proof

namespace Sys2Proof.Machine

section Branch

variable {i : Instr} {s : State} {t target : CodeAddr} {m n len : Nat}

/-! ### The high and low part of an address -/

/-- R260, R261: an address with its low `n` bits replaced, as a number. -/
theorem highPart_append_toNat (v : BitVec (m + n)) (d : BitVec n) :
    (v.extractLsb' n m ++ d).toNat = v.toNat / 2 ^ n * 2 ^ n + d.toNat := by
  have hhigh : v.toNat / 2 ^ n < 2 ^ m := Nat.div_lt_of_lt_mul (by rw [← Nat.pow_add, Nat.add_comm n]; exact v.isLt)
  rw [append_toNat, BitVec.extractLsb'_toNat, Nat.shiftRight_eq_div_pow, Nat.mod_eq_of_lt hhigh]

/-- R260, R261: the same where a block of addresses with one high part has `size` members. -/
theorem highPart_append_eq_ofNat {size : Nat} (hsize : 2 ^ n = size) (v : BitVec (m + n)) (d : BitVec n) :
    v.extractLsb' n m ++ d = BitVec.ofNat (m + n) (v.toNat / size * size + d.toNat) := by
  rw [← hsize, ← highPart_append_toNat, BitVec.ofNat_toNat, BitVec.setWidth_eq]

/-- R262: the bank with number `b` starts at `4096 * b`. -/
theorem bank_append_eq_ofNat {b : BitVec 2} {k : Nat} (hk : b.toNat * 2 ^ 12 = k) (e : BitVec 12) :
    b ++ e = BitVec.ofNat 14 (k + e.toNat) := by
  rw [← hk, ← append_toNat, BitVec.ofNat_toNat, BitVec.setWidth_eq]

/-- R263: replacing the low `n` bits by those of an address in the same block of `2 ^ n` gives that address. -/
theorem highPart_append_lowPart {v a : BitVec (m + n)} (hblock : v.toNat / 2 ^ n = a.toNat / 2 ^ n) :
    v.extractLsb' n m ++ a.extractLsb' 0 n = a :=
  BitVec.eq_of_toNat_eq <| by
    rw [highPart_append_toNat, hblock, BitVec.extractLsb'_toNat, Nat.shiftRight_zero, Nat.div_add_mod']

/-- Where PC has at least `n` bits, replacing the low `n` bits of an address PC can hold keeps the width of PC. -/
theorem highPart_append_lt {w : Nat} {v : BitVec (m + n)} (hn : n ≤ w) (hv : v.toNat < 2 ^ w) (d : BitVec n) :
    (v.extractLsb' n m ++ d).toNat < 2 ^ w := by
  have hsplit : 2 ^ w = 2 ^ (w - n) * 2 ^ n := by rw [← Nat.pow_add, Nat.sub_add_cancel hn]
  have hhigh : v.toNat / 2 ^ n < 2 ^ (w - n) := Nat.div_lt_of_lt_mul (by rw [Nat.mul_comm, ← hsplit]; exact hv)
  calc (v.extractLsb' n m ++ d).toNat
      = v.toNat / 2 ^ n * 2 ^ n + d.toNat := highPart_append_toNat v d
    _ < (v.toNat / 2 ^ n + 1) * 2 ^ n := by rw [Nat.add_one_mul]; exact Nat.add_lt_add_left d.isLt _
    _ ≤ 2 ^ w := hsplit ▸ Nat.mul_le_mul_right _ hhigh

/-! ### The width of PC -/

theorem Series.twelve_le_pcw (r : Series) : 12 ≤ r.pcw := by cases r <;> decide

/-- 10_state.md R22: TLCS-47 alone has fewer than fourteen bits. -/
theorem Series.pcw_of_ne_s47 {r : Series} (hr : r ≠ .s47) : r.pcw = 14 := by
  cases r with
  | s47 => exact absurd rfl hr
  | s470 | s470A => rfl

theorem State.toNat_lt_pcw_of_ne_s47 (hs : s.dev.series ≠ .s47) (a : CodeAddr) : a.toNat < 2 ^ s.dev.series.pcw := by
  rw [Series.pcw_of_ne_s47 hs]
  exact a.isLt

/-- R22: on TLCS-47 PC reaches one bank. -/
theorem bank_eq_zero_of_s47 (hs : s.dev.series = .s47) (ht : t.toNat < 2 ^ s.dev.series.pcw) : t.toNat / 4096 = 0 := by
  rw [hs] at ht
  exact Nat.div_eq_of_lt ht

/-! ### The rule -/

/-- R264: an instruction that branches to an address PC can hold. -/
theorem branchesTo_of_next (hvalue : t = target) (hfits : t.toNat < 2 ^ s.dev.series.pcw)
    (hexec : exec i s = .next (s.branch len t)) : BranchesTo i s target len := by
  subst hvalue
  rw [BranchesTo, hexec, State.branch, wrapPc_of_lt hfits]

/-- R260: `BSS` stays in the page of the next instruction, at any width of PC. -/
theorem branchesTo_bss {d : BitVec 6} (hvalue : (s.npc 1).extractLsb' 6 8 ++ d = target) :
    BranchesTo (.bss d) s target 1 :=
  branchesTo_of_next hvalue
    (highPart_append_lt (Nat.le_trans (by decide) (Series.twelve_le_pcw _)) (s.npc_lt 1) d) rfl

/-- R261: `BS` stays in the bank of the next instruction. -/
theorem branchesTo_bs {e : BitVec 12} (hvalue : (s.npc 2).extractLsb' 12 2 ++ e = target) :
    BranchesTo (.bs e) s target 2 :=
  branchesTo_of_next hvalue (highPart_append_lt (Series.twelve_le_pcw _) (s.npc_lt 2) e) rfl

/-- R262: `BSL` gives the bank `b` and the twelve bits below it. -/
theorem branchesTo_bsl {b : BitVec 2} {e : BitVec 12} (hs : s.dev.series ≠ .s47) (hvalue : b ++ e = target)
    (hexec : exec i s = .next (s.branch 3 (b ++ e))) : BranchesTo i s target 3 :=
  branchesTo_of_next hvalue (State.toNat_lt_pcw_of_ne_s47 hs _) hexec

/-! ### The assembler's choice (R263) -/

/-- `BSL` to a full address goes there: the row chosen has the address's own bank. -/
theorem exec_bslTo (a : CodeAddr) (s : State) : exec (bslTo a) s = .next (s.branch 3 a) := by
  have hparts : a.extractLsb' 12 2 ++ a.extractLsb' 0 12 = a := highPart_append_lowPart (m := 2) rfl
  have hbanks : ∀ b : BitVec 2, b = 0b00#2 ∨ b = 0b01#2 ∨ b = 0b10#2 ∨ b = 0b11#2 := by decide
  rcases hbanks (a.extractLsb' 12 2) with hbank | hbank | hbank | hbank
  all_goals
    rw [bslTo, hbank]
    exact congrArg (fun t => Host.Outcome.next (s.branch 3 t)) (hbank ▸ hparts)

theorem bslTo_length (a : CodeAddr) : (bslTo a).length = 3 := by
  unfold bslTo
  split <;> rfl

/-- R263: on TLCS-47 or inside the bank of the next instruction, the target has the bank of `npc`. -/
theorem State.npc_bank_eq {a : CodeAddr} (ha : a.toNat < 2 ^ s.dev.series.pcw)
    (hbank : s.dev.series = .s47 ∨ (s.pc + 2).toNat / 4096 = a.toNat / 4096) :
    (s.npc 2).toNat / 4096 = a.toNat / 4096 := by
  by_cases hs : s.dev.series = .s47
  · rw [bank_eq_zero_of_s47 hs (s.npc_lt 2), bank_eq_zero_of_s47 hs ha]
  · have hnpc : s.npc 2 = s.pc + 2 := wrapPc_of_lt (State.toNat_lt_pcw_of_ne_s47 hs _)
    rw [hnpc]
    exact hbank.resolve_left hs

end Branch

/-! ### The statements -/

/-- Settles O55: the target of each is its high part above its operand, which PC can hold. -/
theorem branches : Obligations.Branches := by
  refine fun s d e => ⟨branchesTo_bss ?page, branchesTo_bs ?bank, fun hs => ⟨branchesTo_bsl hs (b := 0b00#2) ?bank0 rfl,
    branchesTo_bsl hs (b := 0b01#2) ?bank1 rfl, branchesTo_bsl hs (b := 0b10#2) ?bank2 rfl,
    branchesTo_bsl hs (b := 0b11#2) ?bank3 rfl⟩⟩
  case page => exact highPart_append_eq_ofNat (m := 8) (n := 6) rfl (s.npc 1) d
  case bank => exact highPart_append_eq_ofNat (m := 2) (n := 12) rfl (s.npc 2) e
  case bank0 => exact (bank_append_eq_ofNat (k := 0) rfl e).trans (by rw [Nat.zero_add])
  case bank1 | bank2 | bank3 => exact bank_append_eq_ofNat rfl e

/-- Settles O7, by the branch of the choice: `BSS` and `BS` are taken where the target has the high part of `npc`, which they keep. -/
theorem assembledBranchLands : Obligations.AssembledBranchLands := by
  intro s a _ ha
  unfold assembleB
  split_ifs with hpage hbank
  · have hnpc : (s.npc 1).toNat / 64 = a.toNat / 64 := (congrArg (· / 64) (wrapPc_toNat _ _)).trans hpage
    exact branchesTo_bss (highPart_append_lowPart (m := 8) hnpc)
  · exact branchesTo_bs (highPart_append_lowPart (m := 2) (State.npc_bank_eq ha hbank))
  · rw [bslTo_length]
    exact branchesTo_of_next rfl ha (exec_bslTo a s)

end Sys2Proof.Machine
end

section
/-! SUPPORT. 48_subroutine.md: what a push leaves for the next pop, one rule for a call, one for a return after a call, and the
statements; each call and return follows from its rule. -/

open Sys2Proof

namespace Sys2Proof.Machine

section Stack

variable {i : Instr} {s t : State} {ret target : CodeAddr} {f : Flags} {len n : Nat}

/-! ### A push, and the pop after it (R274) -/

/-- R274: bit 13 of the address pushed, the part that STK13 holds where PC has it. -/
theorem State.push_stk13_iff (s : State) (ret : CodeAddr) (f : Flags) :
    (s.push ret f).stk13.get s.spw.toFin = true ↔ s.dev.series ≠ .s47 ∧ 8192 ≤ ret.toNat := by
  rw [(s.push_at_spw ret f).2, Bool.and_eq_true, bne_iff_ne, getLsbD_13]

/-- 10_state.md R22: an address that PC can hold has bit 13 only where PC has fourteen bits. -/
theorem ne_s47_of_bit13 (hret : ret.toNat < 2 ^ s.dev.series.pcw) (hbit : 8192 ≤ ret.toNat) : s.dev.series ≠ .s47 := by
  intro hs
  rw [hs] at hret
  exact Nat.not_le_of_lt (Nat.lt_trans hret (by decide)) hbit

/-- R273, R274: a pop reads the location that the push before it wrote. -/
theorem State.push_popIndex (s : State) (ret : CodeAddr) (f : Flags) : (s.push ret f).popIndex = s.spw := spw_dec_inc s.spw

theorem State.push_popLoc (s : State) (ret : CodeAddr) (f : Flags) : (s.push ret f).popLoc = ⟨ret.extractLsb' 0 13, f⟩ := by
  rw [State.popLoc, State.push_popIndex]
  exact (s.push_at_spw ret f).1

/-- R273, R274: a pop gives the address that the push before it saved, if PC can hold it. -/
theorem State.push_popPc (f : Flags) (hret : ret.toNat < 2 ^ s.dev.series.pcw) : (s.push ret f).popPc = ret := by
  apply BitVec.eq_of_toNat_eq
  have hlow : (ret.extractLsb' 0 13).toNat = ret.toNat % 8192 := BitVec.extractLsb'_toNat 0 13 ret
  rw [State.popPc_toNat, State.push_popLoc, State.push_popIndex, State.push_dev, hlow]
  split
  case isTrue hs =>
    rw [hs] at hret
    change ret.toNat < 4096 at hret
    omega
  case isFalse hs =>
    have hbit := s.push_stk13_iff ret f
    have hwidth := ret.isLt
    cases hb : (s.push ret f).stk13.get s.spw.toFin with
    | true =>
      obtain ⟨-, hhigh⟩ := hbit.1 hb
      rw [Bool.toNat_true]
      omega
    | false =>
      have hhigh : ¬ 8192 ≤ ret.toNat := fun h => Bool.false_ne_true (hb.symm.trans (hbit.2 ⟨hs, h⟩))
      rw [Bool.toNat_false]
      omega

/-- R274: a state with the stack that a push leaves pops what was pushed, whatever its other fields hold. -/
theorem State.pop_of_pushed (hdev : t.dev = s.dev) (hspw : t.spw = s.spw - 1) (hstack : t.stack = (s.push ret f).stack)
    (hstk13 : t.stk13 = (s.push ret f).stk13) (hret : ret.toNat < 2 ^ s.dev.series.pcw) :
    t.popIndex = s.spw ∧ t.popLoc = ⟨ret.extractLsb' 0 13, f⟩ ∧ t.popPc = ret := by
  have hindex : t.popIndex = (s.push ret f).popIndex := congrArg (· + 1) hspw
  have hloc : t.popLoc = (s.push ret f).popLoc := by rw [State.popLoc, hindex, hstack, State.popLoc]
  have hpc : t.popPc.toNat = (s.push ret f).popPc.toNat := by
    rw [State.popPc_toNat, State.popPc_toNat, hdev, hindex, hloc, hstk13, State.push_dev]
  exact ⟨hindex.trans (s.push_popIndex ret f), hloc.trans (s.push_popLoc ret f),
    (BitVec.eq_of_toNat_eq hpc).trans (State.push_popPc f hret)⟩

/-- R30: the location a pop reads, as a number. -/
theorem State.popIndex_toFin {i : Fin 16} (hi : i.val = (s.spw.toNat + 1) % 16) : s.popIndex.toFin = i :=
  Fin.ext ((spw_inc_toNat s.spw).trans hi.symm)

/-! ### Calls and the return after them -/

/-- R270, R272: an instruction that calls an address that PC can hold. -/
theorem callsTo_of_callTo (husable : s.stackFault s.spw = none) (hvalue : target.toNat = n)
    (hfits : target.toNat < 2 ^ s.dev.series.pcw) (hexec : exec i s = s.callTo len target) : CallsTo i s n len := by
  refine ⟨_, hexec.trans (State.callTo_eq_next.2 ⟨husable, rfl⟩), ?pc, spw_dec_toNat s.spw, ?saved, ?bit13,
    fun j hj => s.push_elsewhere _ _ hj, rfl⟩
  case pc => exact (congrArg BitVec.toNat (wrapPc_of_lt hfits)).trans hvalue
  case saved =>
    have hloc := (s.push_at_spw (s.npc len) (Config.freeFlags s.freeCount)).1
    exact (congrArg (fun c => c.pc.toNat) hloc).trans (BitVec.extractLsb'_toNat 0 13 _)
  case bit13 =>
    exact (s.push_stk13_iff _ (Config.freeFlags s.freeCount)).trans (and_iff_right_of_imp (ne_s47_of_bit13 (s.npc_lt len)))

/-- R270, R272, R273: `RET` after a call goes on after the call, and the location that the call used is the only one written. -/
theorem ret_of_callTo (husable : s.stackFault s.spw = none) (hexec : exec i s = s.callTo len target) :
    ∃ t u, exec i s = .next t ∧ exec .ret t = .next u ∧
      (∀ j : Fin 16, j ≠ s.spw.toFin → u.stack.get j = s.stack.get j ∧ u.stk13.get j = s.stk13.get j) ∧
      u = { s with pc := s.npc len, stack := u.stack, stk13 := u.stk13, freeCount := u.freeCount } := by
  obtain ⟨t, ht⟩ : ∃ t : State,
      t = { (s.push (s.npc len) (Config.freeFlags s.freeCount)).jump target with freeCount := s.freeCount + 1 } := ⟨_, rfl⟩
  obtain ⟨hindex, -, hpc⟩ := State.pop_of_pushed (f := Config.freeFlags s.freeCount) (ht ▸ rfl : t.dev = s.dev)
    (ht ▸ rfl) (ht ▸ rfl) (ht ▸ rfl) (s.npc_lt len)
  have hpass : t.stackFault t.popIndex = none := by
    rw [hindex, ht]
    exact husable
  refine ⟨t, t.pop, hexec.trans (State.callTo_eq_next.2 ⟨husable, ht⟩), checked_singleton_of_none hpass, fun j hj => ?_, ?_⟩
  · rw [State.pop_stack, State.pop_stk13, ht]
    exact s.push_elsewhere _ _ hj
  · rw [State.pop, hindex, hpc, ht]
    rfl

/-! ### Entry addresses -/

/-- R270: the entry of a short call, as a number. -/
theorem shortEntry_toNat (n : Nibble) : (shortEntry n).toNat = 8 * (if n = 0 then 16 else n.toNat) + 6 := by
  revert n
  decide

/-- R272: an address of at most twelve bits is one that PC can hold on every series. -/
theorem lt_pcw_of_lt (h : n < 4096) (r : Series) : n < 2 ^ r.pcw :=
  Nat.lt_of_lt_of_le h (Nat.pow_le_pow_right Nat.two_pos (Series.twelve_le_pcw r))

end Stack

/-! ### The statements -/

/-- Settles O56: each entry is below 4096, so PC can hold it on every series. -/
theorem calls : Obligations.Calls := by
  intro s husable
  have hshort (n : Nibble) : (shortEntry n).toNat < 4096 := by
    revert n
    decide
  refine ⟨fun n => ⟨callsTo_of_callTo husable (shortEntry_toNat n) (lt_pcw_of_lt (hshort n) _) rfl,
    callsTo_of_callTo husable (shortEntry_toNat n) (lt_pcw_of_lt (hshort n) _) rfl⟩, fun a => ?_⟩
  have hentry : (0#3 ++ a : CodeAddr).toNat = a.toNat := (append_toNat 0#3 a).trans (by simp)
  have ha := a.isLt
  exact callsTo_of_callTo husable hentry (lt_pcw_of_lt (by omega) _) rfl

/-- Settles O57: each return pops the location SPW + 1, whose check passes. -/
theorem returns : Obligations.Returns := by
  intro s i hi husable
  have hindex : s.popIndex.toFin = i := State.popIndex_toFin hi
  have hspw : s.popIndex.toNat = i.val := congrArg Fin.val hindex
  have hloc : s.popLoc = s.stack.get i := congrArg s.stack.get hindex
  have hpass : s.stackFault s.popIndex = none := by rwa [State.stackFault_eq_none, hspw]
  have hpc := s.popPc_toNat
  rw [hloc, hindex] at hpc
  refine ⟨⟨s.pop, checked_singleton_of_none hpass, hspw, hpc, rfl⟩, { s.pop.setFlags (s.stack.get i).flag with eif := true },
    ?reti, hspw, hpc, fun hs => if_pos hs, fun hs => if_neg hs, rfl⟩
  case reti => exact State.returnFromInterrupt_eq_next.2 ⟨hpass, by rw [hloc]⟩

/-- Settles O18: what the call pushed is what `RET` pops. -/
theorem retUndoesCall : Obligations.RetUndoesCall := fun _ husable =>
  ⟨fun _ => ret_of_callTo husable rfl, fun _ => ret_of_callTo husable rfl⟩

end Sys2Proof.Machine
end

section
/-! SUPPORT. 49_interrupt_stk13_cpu.md: the instructions that mask the interrupt latches, those of STK13, and `NOP`. -/

open Sys2Proof

namespace Sys2Proof.Machine

/-! ### STK13 -/

/-- R290, R291: the bit of STK13 that A selects takes the value, and no other bit changes. -/
theorem State.putStk13_get (s : State) (v : Bool) : (s.putStk13 v).stk13.get s.a.toFin = v ∧
    ∀ j : Fin 16, j ≠ s.a.toFin → (s.putStk13 v).stk13.get j = s.stk13.get j :=
  ⟨vector_get_set_self s.stk13 s.a.toFin v, fun _ hj => vector_get_set_ne s.stk13 v hj⟩

/-- R293: a bit widened to a word keeps its number. -/
theorem widened_bit_eq_ofNat (b : Bool) : (0#3 ++ BitVec.ofBool b : Nibble) = BitVec.ofNat 4 b.toNat := by
  cases b <;> rfl

/-! ### The statements -/

/-- Settles O58: a masked latch bit is the conjunction with the mask's bit; none of the five makes an access. -/
theorem interruptControlInstructions : Obligations.InterruptControlInstructions := by
  intro s r
  have hmask (j : Fin 6) : (s.il &&& r).getLsbD j = (s.il.getLsbD j && r.getLsbD j) := BitVec.getLsbD_and
  exact ⟨⟨_, rfl, hmask, rfl⟩, ⟨_, rfl, hmask, rfl⟩, ⟨_, rfl, hmask, rfl⟩, rfl, rfl⟩

/-- Settles O59: `CLR` and `SET` write the bit that A selects; `MOV STK13, A` loads the bit that SPW13 selects. -/
theorem stk13Instructions : Obligations.Stk13Instructions := by
  intro s _
  obtain ⟨hclear, hclearOther⟩ := s.putStk13_get false
  obtain ⟨hset, hsetOther⟩ := s.putStk13_get true
  exact ⟨⟨_, rfl, hclear, hclearOther, rfl⟩, ⟨_, rfl, hset, hsetOther, rfl⟩, rfl,
    loadsA_of_result (widened_bit_eq_ofNat _) rfl rfl⟩

/-- Settles O60: no series takes the byte 00H as the first of three, so it is read alone. -/
theorem nopRule : Obligations.NopRule := by
  refine ⟨fun d => ⟨rfl, ?_⟩, rfl, fun s => ⟨s.advance 1, rfl, s.npc_toNat 1, rfl⟩⟩
  have hlead : isLead3 d.series 0x00 = false := by cases d.series <;> rfl
  have hlen : instrLength d.series 0x00 = 1 := by rw [instrLength, hlead]; rfl
  exact decode_one (rest := []) hlen fun _ _ => by rw [decodeMap, hlead]; rfl

end Sys2Proof.Machine
end

section
/-! SUPPORT. 60_exceptions.md: one step in the order of R302 (the environment's part, the interrupt decision, fetch, decode,
execution), where an instruction stops, which request is accepted, and what an interrupt entry and the return from it write. -/

open Sys2Proof

namespace Sys2Proof.Machine

variable {i : Instr} {s t : State}

/-! ### The first fault (R302) -/

/-- The checks of a list of things, made in order, report the fault of the first thing that has one. -/
theorem firstFault_map {α : Type} (check : α → Option Fault) (l : List α) : firstFault (l.map check) = l.findSome? check := by
  induction l with
  | nil => rfl
  | cons a l ih =>
    rw [List.map_cons, List.findSome?_cons]
    cases check a with
    | none => exact ih
    | some f => rfl

/-- R301: the first fault of an instruction's accesses is what `checked` reports of them. -/
theorem accessFault_eq_firstFault (i : Instr) (s : State) :
    accessFault i s = firstFault ((accesses s i).map (Access.fault s)) :=
  (firstFault_map _ _).symm

/-! ### Fetch (20_memory.md R58) -/

/-- R58: the fetch of a byte passes exactly inside program memory. -/
theorem State.fetchFault_eq_none {a : CodeAddr} : s.fetchFault a = none ↔ a.toNat < s.dev.romSize := by
  simp [State.fetchFault]

/-- R58: the fetch of a byte outside program memory raises `FetchOutsideRom` with its address. -/
theorem State.fetchFault_of_outside {a : CodeAddr} (ha : s.dev.romSize ≤ a.toNat) :
    s.fetchFault a = some (.fetchOutsideRom a) :=
  if_neg (Nat.not_lt_of_le ha)

/-- R302 (2): the fetch passes exactly when every byte of the instruction lies inside program memory. -/
theorem State.firstFault_fetchFaults_eq_none :
    firstFault s.fetchFaults = none ↔ ∀ a ∈ s.fetchAddrs, a.toNat < s.dev.romSize := by
  rw [State.fetchFaults, firstFault_map, List.findSome?_eq_none_iff]
  exact forall₂_congr fun _ _ => State.fetchFault_eq_none

/-- R302 (2): the bytes are checked first byte first. -/
theorem State.firstFault_fetchFaults_of_outside {k : Nat} (hk : k < s.fetchLength)
    (hinside : ∀ j < k, (s.npc j).toNat < s.dev.romSize) (houtside : s.dev.romSize ≤ (s.npc k).toNat) :
    firstFault s.fetchFaults = some (.fetchOutsideRom (s.npc k)) := by
  obtain ⟨m, hm⟩ := Nat.exists_eq_add_of_lt hk
  have hsplit : List.range s.fetchLength = List.range k ++ k :: (List.range m).map (k + Nat.succ ·) := by
    rw [hm, Nat.add_assoc, List.range_add, List.range_succ_eq_map, List.map_cons, List.map_map]
    rfl
  rw [State.fetchFaults, State.fetchAddrs, List.map_map, firstFault_map, List.findSome?_eq_some_iff]
  exact ⟨_, k, _, hsplit, State.fetchFault_of_outside houtside,
    fun j hj => State.fetchFault_eq_none.2 (hinside j (List.mem_range.1 hj))⟩

/-- Every byte's address is `npc` of its number. -/
theorem State.forall_mem_fetchAddrs {p : CodeAddr → Prop} :
    (∀ a ∈ s.fetchAddrs, p a) ↔ ∀ k < s.fetchLength, p (s.npc k) := by
  simp [State.fetchAddrs]

/-- R52, R58: as many bytes as the first one says, read from pc on, are the bytes of the instruction. -/
theorem State.fetchBytes_eq {bs : List Byte} (hlen : s.fetchLength = bs.length)
    (hbytes : ∀ k < bs.length, some (s.romByte (s.npc k)) = bs[k]?) : s.fetchBytes = bs := by
  have hcount : s.fetchBytes.length = bs.length := by
    rw [State.fetchBytes, State.fetchAddrs, List.length_map, List.length_map, List.length_range, hlen]
  refine List.ext_getElem hcount fun k _ hk => Option.some_inj.1 ?_
  calc some s.fetchBytes[k]
      = some (s.romByte (s.npc k)) := by simp only [State.fetchBytes, State.fetchAddrs, List.getElem_map, List.getElem_range]
    _ = some bs[k] := (hbytes k hk).trans (List.getElem?_eq_getElem hk)

/-! ### One step (R302) -/

/-- R302 (2): a step whose fetch fails stops with the first fault of the fetch. -/
theorem step_of_fetchFault {f : Fault} (hacc : s.accepted = none) (hfetch : firstFault s.fetchFaults = some f) :
    step s = .fault f := by
  have hboundary : firstFault s.boundary.fetchFaults = some f := hfetch
  rw [step_of_not_accepted hacc, State.fetchExec, hboundary]

/-- R302 (3) to (5): a step whose fetch passes does what the decoder answers for the bytes. -/
theorem step_of_fetched (hacc : s.accepted = none) (hfetch : ∀ a ∈ s.fetchAddrs, a.toNat < s.dev.romSize) :
    (∀ i r, decode s.dev s.fetchBytes = .instr i r → step s = exec i s.boundary) ∧
      ∀ bs, decode s.dev s.fetchBytes = .illegal bs → step s = .fault (.illegalInstruction s.pc bs) := by
  have hpass : firstFault s.boundary.fetchFaults = none := State.firstFault_fetchFaults_eq_none.2 hfetch
  refine ⟨fun i r hdec => ?_, fun bs hdec => ?_⟩
  · have hboundary : decode s.boundary.dev s.boundary.fetchBytes = .instr i r := hdec
    rw [step_of_not_accepted hacc, State.fetchExec, hpass, hboundary]
  · have hboundary : decode s.boundary.dev s.boundary.fetchBytes = .illegal bs := hdec
    rw [step_of_not_accepted hacc, State.fetchExec, hpass, hboundary, State.boundary_pc]

/-- 30_encoding.md R87: where the bytes are as many as the first one says, the decoder rejects all of them by name. -/
theorem decode_illegal_eq {d : Device} {b0 : Byte} {tail bs : List Byte} (hlen : instrLength d.series b0 = tail.length + 1)
    (h : decode d (b0 :: tail) = .illegal bs) : bs = b0 :: tail := by
  simp only [decode, hlen, Nat.lt_irrefl, if_false] at h
  split at h
  · cases h
  · cases h
    exact List.take_of_length_le (Nat.le_refl _)

/-- R87, R302 (3): the bytes that the decoder rejects are those that were fetched. -/
theorem State.decode_fetchBytes_illegal {bs : List Byte} (h : decode s.dev s.fetchBytes = .illegal bs) :
    bs = s.fetchBytes := by
  obtain ⟨n, hn⟩ := Nat.exists_eq_succ_of_ne_zero (Nat.pos_iff_ne_zero.1 (instrLength_pos s.dev.series (s.romByte (s.npc 0))))
  have hbytes : s.fetchBytes = s.romByte (s.npc 0) :: (List.range n).map (s.romByte ∘ s.npc ∘ Nat.succ) := by
    rw [State.fetchBytes, State.fetchAddrs, State.fetchLength, hn, List.range_succ_eq_map]
    simp only [List.map_cons, List.map_map]
  rw [hbytes] at h ⊢
  exact decode_illegal_eq (by rw [hn, List.length_map, List.length_range]) h

/-! ### The environment's part (R303) -/

theorem mem_requestList (j : Fin 6) : j ∈ ([5, 4, 3, 2, 1, 0] : List (Fin 6)) := by
  revert j
  decide

/-- R303: an event is recorded for each request and for nothing else. -/
theorem mem_irqEvents {r : BitVec 6} {e : Event} : e ∈ irqEvents r ↔ ∃ j : Fin 6, e = .irq j ∧ r.getLsbD j = true := by
  simp only [irqEvents, List.mem_filterMap, mem_requestList, true_and, Option.ite_none_right_eq_some, Option.some_inj]
  exact exists_congr fun j => and_comm.trans (and_congr_left' eq_comm)

/-- R303: no request is recorded twice. -/
theorem irqEvents_nodup (r : BitVec 6) : (irqEvents r).Nodup := by
  refine List.Nodup.filterMap (fun j k e hj hk => ?_) (by decide)
  simp only [Option.mem_def, Option.ite_none_right_eq_some, Option.some_inj] at hj hk
  exact Event.irq.inj (hj.2.trans hk.2.symm)

/-! ### The interrupt decision (R304 to R306) -/

/-- R304: a request is pending exactly when it is latched and enabled. -/
theorem State.pending_iff {j : Fin 6} :
    s.pending j = true ↔ s.il.getLsbD j = true ∧ IntConfig.enabled s.dev.intConfig j s.eir = true := by
  rw [State.pending, Bool.and_eq_true]

/-- R304: what is accepted is acceptable after the environment's part, and acceptance is not delayed. -/
theorem State.accepted_eq_some {j : Fin 6} :
    s.accepted = some j ↔ s.holding = false ∧ s.boundary.acceptable = some j := by
  rw [State.accepted]
  cases s.holding <;> simp

/-- R304: a request is accepted exactly when acceptance is not delayed, EIF is 1 and some request is pending. -/
theorem State.accepted_ne_none :
    s.accepted ≠ none ↔ s.holding = false ∧ s.eif = true ∧ ∃ j, s.boundary.pending j = true := by
  rw [Option.ne_none_iff_exists']
  simp only [State.accepted_eq_some, exists_and_left, ← Option.isSome_iff_exists]
  refine and_congr_right fun _ => ?_
  cases heif : s.eif with
  | false => simp [State.acceptable, heif]
  | true => simpa using State.acceptable_isSome (s := s.boundary) heif

/-- The first element of a list with a property comes no later than any other element with it. -/
theorem idxOf_le_of_find? {α : Type} [DecidableEq α] {p : α → Bool} {l : List α} {a b : α} (ha : l.find? p = some a)
    (hb : p b = true) : l.idxOf a ≤ l.idxOf b := by
  induction l with
  | nil => cases ha
  | cons c l ih =>
    cases hc : p c with
    | true =>
      rw [List.find?_cons_of_pos hc, Option.some_inj] at ha
      rw [ha, List.idxOf_cons_self]
      exact Nat.zero_le _
    | false =>
      have hskip {x : α} (hx : p x = true) : c ≠ x := fun h => Bool.false_ne_true (hc.symm.trans (h ▸ hx))
      rw [List.find?_cons_of_neg (Bool.eq_false_iff.1 hc)] at ha
      rw [List.idxOf_cons_ne _ (hskip (List.find?_some ha)), List.idxOf_cons_ne _ (hskip hb)]
      exact Nat.succ_le_succ (ih ha)

/-- R305, R306: the accepted request comes first in a priority order that lists all six (log 13). -/
theorem State.idxOf_acceptable_le {j k : Fin 6} (hacc : s.acceptable = some j) (hall : ∀ m : Fin 6, m ∈ s.dev.intConfig.order)
    (hk : s.pending k = true) : s.dev.intConfig.order.idxOf j ≤ s.dev.intConfig.order.idxOf k := by
  have hfirst : s.highest = some j := by
    rw [State.acceptable] at hacc
    split at hacc
    · exact hacc
    · cases hacc
  have hle := idxOf_le_of_find? hfirst hk
  rwa [List.idxOf_append_of_mem (hall j), List.idxOf_append_of_mem (hall k)] at hle

/-! ### Entry and return (R304, R307) -/

/-- R304: the latch of the request served is cleared and every other latch bit is kept. -/
theorem getLsbD_clearLatch (v : BitVec 6) (i j : Fin 6) :
    (v &&& ~~~(1#6 <<< i.val)).getLsbD j = (v.getLsbD j && decide (j ≠ i)) := by
  have hmask : (1#6 <<< i.val).getLsbD j = decide (j = i) := by
    rw [← BitVec.twoPow_eq, BitVec.getLsbD_twoPow, decide_eq_true i.isLt, Bool.true_and, decide_eq_decide, Fin.ext_iff]
    exact eq_comm
  rw [BitVec.getLsbD_and, BitVec.getLsbD_not, hmask, decide_eq_true j.isLt, Bool.true_and, decide_not]

/-- 10_state.md R26: restoring FLAG gives back all four flags, if GF is as it was where it is no member of FLAG. -/
theorem State.setFlags_flags (hdev : t.dev = s.dev) (hgf : s.dev.series ≠ .s47 → t.gf = s.gf) :
    t.setFlags s.flags = { t with cf := s.cf, zf := s.zf, sf := s.sf, gf := s.gf } := by
  have hrestored : (if t.dev.series = .s47 then s.flags.gf else t.gf) = s.gf := by
    rw [hdev]
    split
    case isTrue hs => simp [State.flags, hs]
    case isFalse hs => exact hgf hs
  rw [State.setFlags, hrestored]
  rfl

/-- R304, R307: the return after an entry restores pc, FLAG, SPW and EIF, and keeps what the entry left in the rest. -/
theorem State.returnFromInterrupt_of_takeInterrupt {j : Fin 6} (hfits : s.pcFits) (heif : s.eif = true)
    (h : s.takeInterrupt j = .next t) :
    t.returnFromInterrupt = .next { s with
      stack := t.stack, stk13 := t.stk13, il := t.il, freeCount := t.freeCount } := by
  obtain ⟨husable, ht⟩ := State.takeInterrupt_eq_next.1 h
  have hdev : t.dev = s.dev := ht ▸ rfl
  obtain ⟨hindex, hloc, hpc⟩ := State.pop_of_pushed hdev (ht ▸ rfl) (ht ▸ rfl : t.stack = (s.push s.pc s.flags).stack)
    (ht ▸ rfl) hfits
  have hgf : s.dev.series ≠ .s47 → t.gf = s.gf := fun hs => (congrArg State.gf ht :).trans (if_neg hs)
  have hpass : t.stackFault t.popIndex = none := by
    rw [hindex, State.stackFault, hdev]
    exact husable
  refine State.returnFromInterrupt_eq_next.2 ⟨hpass, ?_⟩
  rw [hloc, State.setFlags_flags (t := t.pop) hdev hgf, State.pop, hindex, hpc, ← heif, ht]
  rfl

/-! ### The statements -/

/-- Settles O9: the first byte says how many are fetched, so the bytes fetched are the instruction's words, which are read back. -/
theorem stepRunsEncodedInstruction : Obligations.StepRunsEncodedInstruction := by
  intro s i bs hwf hi henc hacc hrom
  obtain ⟨b0, r, hwords, hlen, hfirst⟩ := lengthFromFirstByte s.dev i hwf hi
  obtain rfl : bs = b0 :: r := Option.some_inj.1 (henc.symm.trans hwords)
  have hb0 : s.romByte (s.npc 0) = b0 := Option.some_inj.1 (hrom 0 (Nat.succ_pos _)).2
  have hcount : s.fetchLength = (b0 :: r).length := by rw [State.fetchLength, hb0, hfirst, List.length_cons, hlen]
  have hbytes : s.fetchBytes = b0 :: r := State.fetchBytes_eq hcount fun k hk => (hrom k hk).2
  obtain ⟨words, hwords', hdec⟩ := encodeThenDecode s.dev i [] hwf hi
  obtain rfl : words = b0 :: r := Option.some_inj.1 (hwords'.symm.trans hwords)
  have hinside : ∀ a ∈ s.fetchAddrs, a.toNat < s.dev.romSize :=
    State.forall_mem_fetchAddrs.2 fun k hk => (hrom k (hcount ▸ hk)).1
  rw [List.append_nil, ← hbytes] at hdec
  exact (step_of_fetched hacc hinside).1 i [] hdec

/-- Settles O10, from the first fault of the fetch and what the decoder answers for the bytes fetched. -/
theorem stepFetchAndDecodeFaults : Obligations.StepFetchAndDecodeFaults := by
  refine fun s hacc => ⟨fun k hk hinside houtside => ?outside, fun hinside ⟨bs, hdec⟩ => ?illegal⟩
  case outside => exact step_of_fetchFault hacc (State.firstFault_fetchFaults_of_outside hk hinside houtside)
  case illegal =>
    obtain rfl := State.decode_fetchBytes_illegal hdec
    exact (step_of_fetched hacc (State.forall_mem_fetchAddrs.2 hinside)).2 _ hdec

/-- Settles O11: an instruction is `checked` of its accesses, and `checked` stops exactly with the first fault. -/
theorem execStopsExactlyOnFirstFault : Obligations.ExecStopsExactlyOnFirstFault := by
  intro i s
  obtain ⟨u, hu⟩ := exec_eq_checked i s
  rw [hu, accessFault_eq_firstFault]
  exact ⟨fun _ => checked_eq_fault, fun ⟨_, ht⟩ => (checked_eq_next.1 ht).1,
    fun hnone => ⟨u, checked_eq_next.2 ⟨hnone, rfl⟩⟩⟩

/-- Settles O15: what is accepted is the first pending request after the environment's part. -/
theorem acceptedExactlyWhenPending : Obligations.AcceptedExactlyWhenPending := by
  intro s
  refine ⟨by simpa only [State.pending_iff, State.boundary_dev, State.boundary_eir] using s.accepted_ne_none, fun i hi => ?_⟩
  obtain ⟨-, hacc⟩ := State.accepted_eq_some.1 hi
  obtain ⟨hlatched, henabled⟩ := State.pending_iff.1 (State.acceptable_pending hacc).2
  exact ⟨hlatched, henabled, fun hall j hj hen =>
    State.idxOf_acceptable_le (s := s.boundary) hacc hall (State.pending_iff.2 ⟨hj, hen⟩)⟩

/-- Settles O16: the entry pushes pc and FLAG of the state after the environment's part, and goes to the vector. -/
theorem interruptEntry : Obligations.InterruptEntry := by
  intro s i hacc husable
  have hloc := (s.push_at_spw s.pc s.flags).1
  refine ⟨_, (step_of_accepted hacc).trans (State.takeInterrupt_eq_next.2 ⟨husable, rfl⟩), wrapPc_toNat _ _,
    getLsbD_clearLatch _ i, spw_dec_toNat s.spw, (congrArg (fun c => c.pc.toNat) hloc).trans (BitVec.extractLsb'_toNat 0 13 _),
    congrArg (fun c => c.flag.cf) hloc, congrArg (fun c => c.flag.zf) hloc, congrArg (fun c => c.flag.sf) hloc, ?gf,
    s.push_stk13_iff s.pc s.flags, fun j hj => s.push_elsewhere s.pc s.flags hj, rfl⟩
  case gf =>
    intro hs
    refine (congrArg (fun c => c.flag.gf) hloc).trans ?_
    simp [State.flags, hs]

/-- Settles O17: the entry pushed what `RETI` pops, and EIF was 1. -/
theorem retiUndoesEntry : Obligations.RetiUndoesEntry := by
  intro s t i hfits hacc hstep
  have hentry : s.boundary.takeInterrupt i = .next t := (step_of_accepted hacc).symm.trans hstep
  have heif : s.boundary.eif = true := (State.acceptable_pending (State.accepted_eq_some.1 hacc).2).1
  refine ⟨_, State.returnFromInterrupt_of_takeInterrupt (s := s.boundary) hfits heif hentry, fun j hj => ?others,
    fun j => ?latches, rfl⟩
  all_goals obtain ⟨-, rfl⟩ := State.takeInterrupt_eq_next.1 hentry
  case others => exact s.push_elsewhere s.pc s.flags hj
  case latches => exact getLsbD_clearLatch _ i j

/-- Settles O8: the fetch passes and the decoder answers the instruction. -/
theorem stepRunsDecodedInstruction : Obligations.StepRunsDecodedInstruction := fun _ i r hacc hinside =>
  (step_of_fetched hacc hinside).1 i r

/-- Settles O14: a latch bit after the boundary is the old bit or a request. -/
theorem boundarySetsLatches : Obligations.BoundarySetsLatches := fun _ =>
  ⟨fun _ => BitVec.getLsbD_or, fun _ => mem_irqEvents, irqEvents_nodup _, rfl⟩

end Sys2Proof.Machine
end
